-- ==== Sys2Proof/Word.lean ====
section
/-! DEFINITION. The byte and the small named things that operands are made of: slot numbers and the three samples
of one bit time, the arrival of a frame. Field extraction, byte order and check sums are in Machine/Bytes.lean. -/

namespace Sys2Proof

/-- A byte of a frame, a setting image or a port. -/
abbrev Byte := BitVec 8

/-- A slot number, 1 to 6 (scope file section 4.4). -/
inductive Slot where
  | s1 | s2 | s3 | s4 | s5 | s6
  deriving DecidableEq, Repr

/-- The three samples of one bit time on the peer line, `true` recessive (1) and `false` dominant (0) (R61). -/
structure Sample where
  first : Bool
  second : Bool
  third : Bool
  deriving DecidableEq, Repr

/-- What the peer line shows when a start bit arrives: the recessive bit times counted before it since the last dominant
bit or frame end (R63), and the samples from the start bit on (R61). -/
structure Arrival where
  recessive : Nat
  samples : List Sample
  deriving DecidableEq, Repr

/-- One value for each of the six slots. -/
structure Six (α : Type) where
  a1 : α
  a2 : α
  a3 : α
  a4 : α
  a5 : α
  a6 : α
  deriving DecidableEq, Repr

end Sys2Proof
end

