-- ==== Sys2Proof/Syntax.lean ====
section
/-! DEFINITION. The commands of the WZ640: one constructor per row of spec/opcode_table.json, in the table's order.
The table gives the rows no operands; each constructor carries what the event brings from outside (log entry 6). -/

namespace Sys2Proof

/-- The 36 steps of the part, each whole and indivisible (spec/95). -/
inductive Instr where
  /-- FULL_RESET (R156): `straps` is what STR5..STR0 give, STR5 the high bit. -/
  | fullReset (straps : BitVec 6)
  /-- SETTING_IMAGE_READ_END (R157): the bytes that arrived; fewer than 128 means the 50 ms ran out. -/
  | settingImageReadEnd (bytes : List Byte)
  /-- MEASUREMENT_FRAME (R29): the bits that arrived while the frame signal was asserted, in the order of their
  clocks, each byte high bit first (R182). -/
  | measurementFrame (bits : List Bool)
  /-- LEVEL_FRAME_SENT (R17). -/
  | levelFrameSent
  /-- SAMPLE_TIMER_EXPIRY (R36). -/
  | sampleTimerExpiry
  /-- HOLD_OFF_EXPIRY (R51) of one slot. -/
  | holdOffExpiry (slot : Slot)
  /-- CLEAN_RUN_EXPIRY (R52) of one slot. -/
  | cleanRunExpiry (slot : Slot)
  /-- ROUND_TIMER_EXPIRY (R116). -/
  | roundTimerExpiry
  /-- ROUND_COMMIT (R118). -/
  | roundCommit
  /-- JOIN_TIMER_EXPIRY (R162). -/
  | joinTimerExpiry
  /-- STALE_DEADLINE (R105) of the entry for `address`. -/
  | staleDeadline (address : Nat)
  /-- SILENT_DEADLINE (R106) of the entry for `address`. -/
  | silentDeadline (address : Nat)
  /-- GONE_DEADLINE (R107) of the entry for `address`. -/
  | goneDeadline (address : Nat)
  /-- BEACON_TIMER_EXPIRY (R92). -/
  | beaconTimerExpiry
  /-- COOL_DOWN_EXPIRY (R72). -/
  | coolDownExpiry
  /-- PEER_FRAME_RECEIVED (R64): what the line shows, recessive bit times and samples (R63), and whether another station
  drives the frame's hold bit dominant. -/
  | peerFrameReceived (line : Arrival) (othersHold : Bool)
  /-- TRANSMISSION_START (R65): the recessive bit times counted since the last dominant bit or frame end (R63). -/
  | transmissionStart (recessive : Nat)
  /-- ARBITRATION_LOST (R66): the position in the frame on the wire and the samples read back there. -/
  | arbitrationLost (position : Nat) (readBack : Sample)
  /-- BIT_ERROR (R69): the position, the samples read back there, and the acknowledge and hold bits as read
  (`true` dominant), which matter only where the position lies after them. -/
  | bitError (position : Nat) (readBack : Sample) (ack : Bool) (hold : Bool)
  /-- TRANSMIT_FRAME_END (R70): the acknowledge and hold bits as the sender read them, `true` dominant. -/
  | transmitFrameEnd (ack : Bool) (hold : Bool)
  /-- BIT_ERROR_SETTLE (R70): the recessive bit times counted at that idle (R63). -/
  | bitErrorSettle (recessive : Nat)
  /-- BREAK_DETECTED (R77). -/
  | breakDetected
  /-- BREAK_END (R77). -/
  | breakEnd
  /-- BEACON_APPLY (R82). -/
  | beaconApply
  /-- COMMAND_HANDOVER (R83). -/
  | commandHandover
  /-- FRAME_DROP (R84). -/
  | frameDrop
  /-- IDENTIFY (R171) at the head of the Receive Queue. -/
  | identify
  /-- ACK_FAULTS (R172) at the head of the Receive Queue. -/
  | ackFaults
  /-- CLEAR_TRIP (R173) at the head of the Receive Queue. -/
  | clearTrip
  /-- RESTORE (R174) at the head of the Receive Queue. -/
  | restore
  /-- RESTART (R175) at the head of the Receive Queue. -/
  | restart
  /-- DUMP (R176) at the head of the Receive Queue. -/
  | dump
  /-- REPLY_ENQUEUE (R90). -/
  | replyEnqueue
  /-- STREAM_FRAME_BUILD (R177). -/
  | streamFrameBuild
  /-- SOFT_RESTART_BEGIN (R166). -/
  | softRestartBegin
  /-- RESET_INPUT_ASSERTED (R156). -/
  | resetInputAsserted
  deriving DecidableEq, Repr

end Sys2Proof
end

