-- ==== Sys2Proof/Config.lean ====
section
/-! DEFINITION. What the part fixes (capacities, codes) and the free values: constants with no body, so that nothing
can be proved of their values. -/

namespace Sys2Proof.Config

/-- FREE VALUE (log entry 16, DESIGN CHOICE): the factor of a net trim outside the trim table of R8, which the manual
does not state; no reachable state uses it. -/
opaque factorOutsideTable : Int → Nat

/-- FREE VALUE (log entry 19, DESIGN CHOICE): the node state code of a frame built while the node has no state. -/
opaque stateCodeBeforeEntry : Nat

/-- FREE VALUE (log entry 19, DESIGN CHOICE): the declared period of a beacon built while the node has no state. -/
opaque periodBeforeEntry : Nat

/-- FREE VALUE (log entry 34, DESIGN CHOICE): whether the part decodes a frame whose start bit comes before the line is
idle, as R65 says, or takes that bit for noise that restarts the idle count, as R63 says. -/
opaque decodesBeforeIdle : Bool

/-- Places of the Receive Queue (R86). -/
def rxPlaces : Nat := 4
/-- Shared places of the Transmit Queue (R88). -/
def sharedPlaces : Nat := 3
/-- Records of the Fault Log (R141). -/
def logPlaces : Nat := 32
/-- Entries of the Neighbour Table (R98). -/
def tablePlaces : Nat := 16
/-- Outcomes of the Line Quality Window (R75). -/
def windowPlaces : Nat := 16
/-- The idle gap after a frame that was not held, and after a break, in bit times (R63). -/
def shortGap : Nat := 12
/-- The idle gap after a held frame, in bit times (R63). -/
def longGap : Nat := 40
/-- Transmit errors that put the node in Listen-only (R70). -/
def errorLimit : Nat := 8
/-- First cool-down length in seconds (R71). -/
def coolDownFirst : Nat := 30
/-- Greatest cool-down length in seconds (R72). -/
def coolDownMost : Nat := 240
/-- The least time between a break sent and the next request that is kept, in ms (R76). -/
def breakSpacing : Nat := 10000
/-- Bytes of a setting image (R183). -/
def imageBytes : Nat := 128
/-- The time a setting image read may take, in ms (R157). -/
def imageTimeout : Nat := 50
/-- Declared beacon period of an Unconfigured node, in half-seconds (R92). -/
def unconfiguredPeriod : Nat := 4
/-- Part code of the IDENTIFY reply (R181). -/
def partCode : Nat := 0x0640
/-- Revision of the IDENTIFY reply (R181). -/
def revision : Nat := 2

end Sys2Proof.Config
end

