-- ==== Sys2Proof/Machine/Bytes.lean ====
section
/-! DEFINITION. Bits, bytes, byte order and check sums (R61, R64, R180, R182), and the operations on the six slots. -/

namespace Sys2Proof

/-- The bit's value: what at least two of the three samples show (R61). -/
def Sample.majority (x : Sample) : Bool :=
  (x.first && x.second) || (x.first && x.third) || (x.second && x.third)

/-- A bit is noisy when its three samples do not all agree (R61). -/
def Sample.noisy (x : Sample) : Bool := !(x.first == x.second && x.second == x.third)

/-- Slots 1 to 6 in slot order. -/
def Slot.all : List Slot := [.s1, .s2, .s3, .s4, .s5, .s6]

/-- The slot's number, 1 to 6. -/
def Slot.number : Slot → Nat
  | .s1 => 1
  | .s2 => 2
  | .s3 => 3
  | .s4 => 4
  | .s5 => 5
  | .s6 => 6

/-- The slot with a number 1 to 6, and none for any other number. -/
def Slot.ofNumber : Nat → Option Slot
  | 1 => some .s1
  | 2 => some .s2
  | 3 => some .s3
  | 4 => some .s4
  | 5 => some .s5
  | 6 => some .s6
  | _ => none

namespace Six

/-- The value of one slot. -/
def get {α : Type} (v : Six α) : Slot → α
  | .s1 => v.a1
  | .s2 => v.a2
  | .s3 => v.a3
  | .s4 => v.a4
  | .s5 => v.a5
  | .s6 => v.a6

/-- Write the value of one slot. -/
def set {α : Type} (v : Six α) (k : Slot) (x : α) : Six α :=
  match k with
  | .s1 => { v with a1 := x }
  | .s2 => { v with a2 := x }
  | .s3 => { v with a3 := x }
  | .s4 => { v with a4 := x }
  | .s5 => { v with a5 := x }
  | .s6 => { v with a6 := x }

/-- The six values that a function of the slot gives. -/
def tabulate {α : Type} (f : Slot → α) : Six α := ⟨f .s1, f .s2, f .s3, f .s4, f .s5, f .s6⟩

/-- Change every slot's value by a function of the value. -/
def map {α β : Type} (f : α → β) (v : Six α) : Six β := tabulate fun k => f (v.get k)

/-- Change one slot's value. -/
def modify {α : Type} (v : Six α) (k : Slot) (f : α → α) : Six α := v.set k (f (v.get k))

/-- The six values in slot order. -/
def toList {α : Type} (v : Six α) : List α := [v.a1, v.a2, v.a3, v.a4, v.a5, v.a6]

/-- The sum over the six slots of a figure of each. -/
def sum (v : Six Nat) : Nat := v.a1 + v.a2 + v.a3 + v.a4 + v.a5 + v.a6

/-- Whether some slot's value meets a test. -/
def any {α : Type} (v : Six α) (p : α → Bool) : Bool := v.toList.any p

end Six

/-- A number of bits, high bit first, of a natural number (R180). -/
def bitsOf : Nat → Nat → List Bool
  | 0, _ => []
  | n + 1, v => v.testBit n :: bitsOf n v

/-- The number that bits, high bit first, stand for (R180). -/
def natOf (bits : List Bool) : Nat := bits.foldl (fun acc b => 2 * acc + b.toNat) 0

/-- The bits of bytes, each high bit first, in byte order (R180). -/
def bitsOfBytes : List Byte → List Bool
  | [] => []
  | b :: rest => bitsOf 8 b.toNat ++ bitsOfBytes rest

/-- The bytes that a run of bits spells; bits beyond the last whole byte are left out. -/
def bytesOfBits : Nat → List Bool → List Byte
  | 0, _ => []
  | n + 1, bits => BitVec.ofNat 8 (natOf (bits.take 8)) :: bytesOfBits n (bits.drop 8)

/-- One byte with a value below 256. -/
def byteOf (n : Nat) : Byte := BitVec.ofNat 8 n

/-- Two bytes, high byte first (R180). -/
def be16 (n : Nat) : List Byte := [byteOf (n / 256), byteOf n]

/-- Four bytes, high byte first (R180). -/
def be32 (n : Nat) : List Byte := be16 (n / 65536) ++ be16 n

/-- The byte at an index, read as a number; 0 past the end of the list, which no caller reads. -/
def byteAt (bytes : List Byte) (i : Nat) : Nat := (bytes.getD i 0).toNat

/-- The two-byte number at an index, high byte first (R180). -/
def wordAt (bytes : List Byte) (i : Nat) : Nat := byteAt bytes i * 256 + byteAt bytes (i + 1)

/-- The two's complement value of a byte (R182). -/
def signedAt (bytes : List Byte) (i : Nat) : Int := (bytes.getD i 0).toInt

/-- One bit into the CRC-16 with generator x^16 + x^12 + x^5 + 1 (R64). -/
def crc16Step (reg : BitVec 16) (b : Bool) : BitVec 16 :=
  if (reg.msb ^^ b) then (reg <<< 1) ^^^ 0x1021#16 else reg <<< 1

/-- The CRC-16 of a run of bits: initial value all ones, no final inversion (R64). -/
def crc16 (bits : List Bool) : BitVec 16 := bits.foldl crc16Step 0xFFFF#16

/-- One bit into the CRC-8 with generator x^8 + x^2 + x + 1 (R182). -/
def crc8Step (reg : BitVec 8) (b : Bool) : BitVec 8 :=
  if (reg.msb ^^ b) then (reg <<< 1) ^^^ 0x07#8 else reg <<< 1

/-- The CRC-8 of bytes, each high bit first: initial value all ones, no final inversion (R182). -/
def crc8 (bytes : List Byte) : BitVec 8 := (bitsOfBytes bytes).foldl crc8Step 0xFF#8

/-- A value brought to the nearer end of a range. -/
def clampNat (lo hi v : Nat) : Nat := max lo (min hi v)

/-- A signed value brought to the nearer end of a range. -/
def clampInt (lo hi v : Int) : Int := max lo (min hi v)

end Sys2Proof
end

