-- ==== Sys2Proof/Machine/State.lean ====
section
/-! DEFINITION. State as plain data, block by block as section 3.1 of the manual gives the owners, and State.reset.
The reset values are those of R4, R5, R43, R59, R79, R97, R113, R130, R153 and R155; log entries 1 and 20 name the two
the manual does not give, and log entry 29 those that follow from R156. -/

namespace Sys2Proof.Machine

/-- Why the block stops: no rule of the manual stops it, so there is no constructor. -/
inductive Fault where
  deriving DecidableEq, Repr

/-- What the model gives no meaning. Raised only by a refused arm of exec; safe, since nothing is claimed of it. -/
inductive Refusal where
  /-- The command has no meaning yet; raised by exec's arm alone; safe. -/
  | notModelled (mnemonic : String)
  deriving DecidableEq, Repr

/-- A timer: stopped, or running with the moment it expires in ms since the last full reset. -/
inductive Timer where
  | stopped
  | running (due : Nat)
  deriving DecidableEq, Repr

/-- The sample timer's three conditions (R35). -/
inductive SampleTimer where
  | stopped
  | running (due : Nat)
  | expired
  deriving DecidableEq, Repr

/-- The node states (chapter 10). -/
inductive NodeState where
  | unconfigured | joining | serving | withdrawn
  deriving DecidableEq, Repr

/-- The restart condition (R155). -/
inductive Restart where
  | none | pending | inProgress
  deriving DecidableEq, Repr

/-- A slot's over-drive protection state (R44). -/
inductive TripState where
  | clear | tripped | latched
  deriving DecidableEq, Repr

/-- The line modes (section 4.5). -/
inductive LineMode where
  | normal | listenOnly | probing
  deriving DecidableEq, Repr

/-- The bit rates of the peer line (R60). -/
inductive BitRate where
  | kbit125 | kbit250 | kbit500
  deriving DecidableEq, Repr

/-- A neighbour entry's ageing states (R99). -/
inductive AgeState where
  | present | stale | silent
  deriving DecidableEq, Repr

/-- The outcome of a received frame (R75). -/
inductive LineOutcome where
  | good | noisy | bad
  deriving DecidableEq, Repr

/-- The fault classes (section 9.1). -/
inductive FaultClass where
  | severe | warning | info
  deriving DecidableEq, Repr

/-- The fifteen fault kinds (section 9.1). -/
inductive Kind where
  | ant | thx | ovl | dup | cfg | adr | ovd | thm | flr | smp | lnq | iso | txf | nbl | rxo
  deriving DecidableEq, Repr

/-- The key of a record: kind, slot for OVD and OVL, neighbour address for NBL (R141). -/
structure Key where
  kind : Kind
  slot : Option Slot
  neighbour : Option Nat
  deriving DecidableEq, Repr

/-- A fault record (R142): kind, slot and neighbour address are its key, the class follows from the kind, and
`reading` is value and limit where the kind carries them. -/
structure Record where
  seq : Nat
  key : Key
  reading : Option (Int × Int)
  raised : Nat
  cleared : Option Nat
  repeats : Nat
  active : Bool
  acked : Bool
  deriving DecidableEq, Repr

/-- The values of a slot entry of the setting image as loaded and clamped (R2, R183). -/
structure SlotSetting where
  operator : Nat
  sector : Nat
  nominal : Nat
  floor : Nat
  maximum : Nat
  riseFull : Nat
  deriving DecidableEq, Repr

/-- The values of the setting image as loaded and clamped (R159, R183): B_cfg; W, k, L_full, t_sample, T_derate,
T_crit (R30); q, r, trip filter, max retries, hold-off (R44); rate (R60); beacon period (R92); t_round, bias_max,
fill_max, H_up, H_down, L_act (R114); join count (R159); fault mask (R147); the six slot entries. -/
structure Setting where
  bCfg : Nat
  weight : Nat
  shift : Nat
  lFull : Nat
  tSample : Nat
  tDerate : Int
  tCrit : Int
  overLimit : Nat
  returnLimit : Nat
  tripFilter : Nat
  maxRetries : Nat
  holdOff : Nat
  rate : BitRate
  beaconPeriod : Nat
  tRound : Nat
  biasMax : Nat
  fillMax : Nat
  hUp : Nat
  hDown : Nat
  lAct : Nat
  joinCount : Nat
  mask : BitVec 16
  slots : Six SlotSetting
  deriving DecidableEq, Repr

/-- A measurement frame after its check (R26). -/
structure MeasFrame where
  rise : Six Nat
  occupancy : Six Nat
  forward : Six Nat
  compForward : Nat
  compReflected : Nat
  temperature : Int
  deriving DecidableEq, Repr

/-- Measurement Intake (R26, R35, R38, R41). -/
structure Intake where
  lastFrame : Option MeasFrame
  sampleTimer : SampleTimer
  derate : Nat
  mute : Bool
  deriving DecidableEq, Repr

/-- A slot record of the Carriage Table (R1). -/
structure SlotRecord where
  enabled : Bool
  operator : Nat
  sector : Nat
  nominal : Nat
  floor : Nat
  maximum : Nat
  riseFull : Nat
  load : Nat
  stale : Bool
  full : Bool
  bias : Nat
  fill : Nat
  trip : TripState
  request : Nat
  grant : Nat
  lastSent : Nat
  off : Bool
  deriving DecidableEq, Repr

/-- A level frame: one slot and one level in mW (R16). -/
structure LevelFrame where
  slot : Slot
  level : Nat
  deriving DecidableEq, Repr

/-- The Carriage Allocator: the Carriage Table, the budget in force, the level port with its queue, the frame being sent
and that frame's bits in the order the port drives them (R1, R10, R17, R182). -/
structure Allocator where
  slots : Six SlotRecord
  budget : Nat
  levelQueue : List LevelFrame
  levelSending : Option LevelFrame
  levelBits : List Bool
  deriving DecidableEq, Repr

/-- The Protection Monitor's state of one slot (R44); its trip state is in the slot's record. -/
structure SlotGuard where
  filter : Nat
  settle : Bool
  retry : Nat
  holdOff : Timer
  cleanRun : Timer
  deriving DecidableEq, Repr

/-- The Protection Monitor (R44). -/
structure Protection where
  slots : Six SlotGuard
  antFilter : Nat
  antSettle : Bool
  antLatch : Bool
  deriving DecidableEq, Repr

/-- A frame of the peer line: the fields of R64 without start, check, acknowledge, hold and end. -/
structure Frame where
  priority : Nat
  source : Nat
  kind : Nat
  dest : Nat
  payload : List Byte
  deriving DecidableEq, Repr

/-- An entry of the Transmit Queue (R88): the beacon marker carries its priority alone (0 when urgent, else 3); a
reply its destination and payload, and whether it is the reply that a pending restart waits for (R165); a stream
frame its destination and payload, and whether it is marked last or ended short (R177). -/
inductive TxEntry where
  | marker (urgent : Bool)
  | reply (dest : Nat) (payload : List Byte) (restart : Bool)
  | stream (dest : Nat) (payload : List Byte) (final : Bool)
  deriving DecidableEq, Repr

/-- Which kind of entry an attempt sends (R89). -/
inductive EntryKind where
  | beacon | reply | stream
  deriving DecidableEq, Repr

/-- An attempt to send an entry: its frame as built at the start bit, and whether it is a probe (R65, R72). -/
structure Attempt where
  owner : EntryKind
  frame : Frame
  probe : Bool
  deriving DecidableEq, Repr

/-- What is still on the line of a frame in which the node met a bit error (R69, R73): nothing; the rest of a frame that
the node did not send to the end of its check field; the rest of one that it did, the bit error being in the stuff bit
after the last check bit. -/
inductive FrameRest where
  | over | unsent | sent
  deriving DecidableEq, Repr

/-- What the node is sending: nothing; a frame; a frame in which it met a bit error not yet settled (R70), with the
entry that met it still queued or not and what of that frame is still on the line (R69); a break (R76). -/
inductive TxPhase where
  | quiet
  | sending (attempt : Attempt)
  | errored (attempt : Attempt) (queued : Bool) (rest : FrameRest)
  | sendingBreak
  deriving DecidableEq, Repr

/-- The Line Controller and the two queues (R79, R97). -/
structure Line where
  inUse : Bool
  rate : BitRate
  mode : LineMode
  txErrors : Nat
  coolLength : Nat
  coolTimer : Timer
  rxQueue : List Frame
  txQueue : List TxEntry
  pendingBreak : Bool
  lastBreak : Option Nat
  window : List LineOutcome
  unheard : Nat
  idleNeed : Nat
  idleCount : Nat
  phase : TxPhase
  breakSeen : Bool
  breakRun : Bool
  followUp : Bool
  beaconTimer : Timer
  beaconPeriod : Option Nat
  ackDriven : Bool
  holdDriven : Bool
  deriving DecidableEq, Repr

/-- A slot-list entry (R99). -/
structure NbSlot where
  operator : Nat
  sector : Nat
  load : Nat
  bias : Nat
  fill : Nat
  full : Bool
  stale : Bool
  off : Bool
  deriving DecidableEq, Repr

/-- A neighbour entry (R99); its deadlines are functions of `heard` and `period` (R105), and `goneFallen` says that
the Gone deadline has fallen and the entry stayed (R107). -/
structure Entry where
  address : Nat
  age : AgeState
  heard : Nat
  period : Nat
  reported : NodeState
  summary : BitVec 16
  slots : List NbSlot
  goneFallen : Bool
  deriving DecidableEq, Repr

/-- What a round reads of an enabled slot (R116). -/
structure ReadSlot where
  operator : Nat
  sector : Nat
  load : Nat
  stale : Bool
  trip : TripState
  bias : Nat
  fill : Nat
  deriving DecidableEq, Repr

/-- What a round reads of a neighbour entry (R116). -/
structure ReadEntry where
  address : Nat
  age : AgeState
  reported : NodeState
  slots : List NbSlot
  deriving DecidableEq, Repr

/-- The parameters of R114 as a round reads them. -/
structure SpreadParams where
  tRound : Nat
  biasMax : Nat
  fillMax : Nat
  hUp : Nat
  hDown : Nat
  lAct : Nat
  deriving DecidableEq, Repr

/-- A round's reading (R116): the enabled slots, the entries, whether an ISO record is Active, the parameters. -/
structure Reading where
  slots : Six (Option ReadSlot)
  entries : List ReadEntry
  iso : Bool
  params : SpreadParams
  deriving DecidableEq, Repr

/-- A bias and a fill. -/
structure Trims where
  bias : Nat
  fill : Nat
  deriving DecidableEq, Repr

/-- A round in flight: its reading and what it decided for each enabled slot (R114). -/
structure Round where
  reading : Reading
  decided : Six (Option Trims)
  deriving DecidableEq, Repr

/-- The Spread Unit (R114); the round-in-flight flag is set while `round` holds a round. -/
structure Spread where
  roundTimer : Timer
  round : Option Round
  deriving DecidableEq, Repr

/-- The Fault Recorder (R141) and the fault line, `true` while pulled low (R148). -/
structure Recorder where
  log : List Record
  nextSeq : Nat
  saturated : Bool
  mask : BitVec 16
  faultLine : Bool
  deriving DecidableEq, Repr

/-- Node Control (R155), the setting port read in progress with its start (R157) and the reset input (R156). -/
structure Control where
  state : Option NodeState
  restart : Restart
  restartDue : Bool
  joinTimer : Timer
  strap : BitVec 6
  setting : Option Setting
  checkValue : BitVec 16
  reading : Option Nat
  resetHeld : Bool
  deriving DecidableEq, Repr

/-- The context of a running stream (R176), and whether a frame marked last or ended short has been built (R177). -/
structure Stream where
  requester : Nat
  tag : Byte
  table : Nat
  next : Nat
  stop : Nat
  unheard : Nat
  final : Bool
  deriving DecidableEq, Repr

/-- A reply built at execution (R169): its destination and payload, whether a pending restart waits for it (R165), and
the stream that begins when it enters the Transmit Queue (R176). -/
structure Reply where
  dest : Nat
  payload : List Byte
  restart : Bool
  stream : Option Stream
  deriving DecidableEq, Repr

/-- The current command, executed, with the reply that waits for a place (R168). -/
structure Current where
  command : Frame
  reply : Reply
  deriving DecidableEq, Repr

/-- The Command Unit and the Stream Engine (R168, R176). -/
structure Commands where
  current : Option Current
  stream : Option Stream
  deriving DecidableEq, Repr

/-- The state of the part: the clock in ms since the last full reset, the ten blocks, and the queue of the commands
that wait, first in, first out. -/
structure State where
  now : Nat
  mi : Intake
  ca : Allocator
  pm : Protection
  lc : Line
  nt : List Entry
  su : Spread
  fr : Recorder
  nc : Control
  cu : Commands
  pending : List Instr
  deriving DecidableEq, Repr

/-- A slot record after a full reset (R4, R5). -/
def SlotRecord.reset : SlotRecord :=
  { enabled := false, operator := 0, sector := 0, nominal := 0, floor := 0, maximum := 0, riseFull := 16,
    load := 0, stale := true, full := false, bias := 0, fill := 0, trip := .clear, request := 0, grant := 0,
    lastSent := 0, off := false }

/-- The protection state of a slot after a full reset (R59). -/
def SlotGuard.reset : SlotGuard :=
  { filter := 0, settle := false, retry := 0, holdOff := .stopped, cleanRun := .stopped }

/-- The Line Controller after a full reset (R79, R97). -/
def Line.reset : Line :=
  { inUse := false, rate := .kbit250, mode := .normal, txErrors := 0, coolLength := 30, coolTimer := .stopped,
    rxQueue := [], txQueue := [], pendingBreak := false, lastBreak := none, window := [], unheard := 0,
    idleNeed := 12, idleCount := 0, phase := .quiet, breakSeen := false, breakRun := false, followUp := false,
    beaconTimer := .stopped, beaconPeriod := none, ackDriven := false, holdDriven := false }

/-- The part at its reset values: power-on, with the reset input still held (R156, log entry 1). -/
def State.reset : State :=
  { now := 0
    mi := { lastFrame := none, sampleTimer := .stopped, derate := 0, mute := false }
    ca :=
      { slots := ⟨.reset, .reset, .reset, .reset, .reset, .reset⟩, budget := 0, levelQueue := [],
        levelSending := none, levelBits := [] }
    pm :=
      { slots := ⟨.reset, .reset, .reset, .reset, .reset, .reset⟩, antFilter := 0, antSettle := false,
        antLatch := false }
    lc := .reset
    nt := []
    su := { roundTimer := .stopped, round := none }
    fr := { log := [], nextSeq := 0, saturated := false, mask := 0, faultLine := false }
    nc :=
      { state := none, restart := .none, restartDue := false, joinTimer := .stopped, strap := 0, setting := none,
        checkValue := 0, reading := none, resetHeld := true }
    cu := { current := none, stream := none }
    pending := [] }

end Sys2Proof.Machine
end

