-- ==== Sys2Proof/Machine/Frames.lean ====
section
/-! DEFINITION. What the part sends: frames on the wire with check, stuffing and their fields' places (R62, R64, R66,
R69), level frames (R182), and the codes and byte layouts of chapter 13 (R180, R181). -/

namespace Sys2Proof.Machine

/-- The node state codes of R180. -/
def stateCode : NodeState → Nat
  | .unconfigured => 0
  | .joining => 1
  | .serving => 2
  | .withdrawn => 3

/-- The code of the node state, a free value while the node has none (log entry 19). -/
def stateCodeOf : Option NodeState → Nat
  | some n => stateCode n
  | none => Config.stateCodeBeforeEntry

/-- The line mode codes of R180. -/
def modeCode : LineMode → Nat
  | .normal => 0
  | .listenOnly => 1
  | .probing => 2

/-- The ageing state codes of R180. -/
def ageCode : AgeState → Nat
  | .present => 0
  | .stale => 1
  | .silent => 2

/-- The trip state codes of R180. -/
def tripCode : TripState → Nat
  | .clear => 0
  | .tripped => 1
  | .latched => 2

/-- The fault class codes of R180. -/
def classCode : FaultClass → Nat
  | .severe => 0
  | .warning => 1
  | .info => 2

/-- The rate codes of R183. -/
def rateCode : BitRate → Nat
  | .kbit125 => 0
  | .kbit250 => 1
  | .kbit500 => 2

/-- The class of a kind (section 9.1). -/
def Kind.faultClass : Kind → FaultClass
  | .ant => .severe
  | .thx => .severe
  | .ovl => .severe
  | .dup => .severe
  | .cfg => .severe
  | .adr => .severe
  | .ovd => .warning
  | .thm => .warning
  | .flr => .warning
  | .smp => .warning
  | .lnq => .warning
  | .iso => .warning
  | .txf => .warning
  | .nbl => .info
  | .rxo => .info

/-- The summary position of a kind (R180). -/
def Kind.position : Kind → Nat
  | .ant => 0
  | .thx => 1
  | .ovl => 2
  | .dup => 3
  | .cfg => 4
  | .adr => 5
  | .ovd => 6
  | .thm => 7
  | .flr => 8
  | .smp => 9
  | .lnq => 10
  | .iso => 11
  | .txf => 12
  | .nbl => 13
  | .rxo => 14

/-- The kinds in order of their positions. -/
def Kind.all : List Kind :=
  [.ant, .thx, .ovl, .dup, .cfg, .adr, .ovd, .thm, .flr, .smp, .lnq, .iso, .txf, .nbl, .rxo]

/-- What a bit of a frame on the wire is (R64, R66, R69). -/
inductive BitRole where
  | start | arbitration | body | stuff | acknowledge | hold | ending
  deriving DecidableEq, Repr

/-- A bit of a frame on the wire: what the sender sends, `true` recessive, and what the bit is. -/
structure WireBit where
  bit : Bool
  role : BitRole
  deriving DecidableEq, Repr

/-- The header bits after the start bit, in the order of R64: priority, source, kind, destination, length. -/
def headerOf (f : Frame) : List Bool :=
  bitsOf 2 f.priority ++ bitsOf 6 f.source ++ bitsOf 4 f.kind ++ bitsOf 6 f.dest ++ bitsOf 6 f.payload.length

/-- The covered bits of a frame: from the first priority bit through the last payload bit (R64). -/
def coveredBits (f : Frame) : List Bool := headerOf f ++ bitsOfBytes f.payload

/-- The unstuffed bits of a frame from its start bit through its check field, each with its role: the 8 bits of
priority and source are the arbitration field (R64, R66). -/
def plainBits (f : Frame) : List WireBit :=
  ⟨false, .start⟩ ::
    ((coveredBits f).take 8).map (⟨·, .arbitration⟩) ++
      (((coveredBits f).drop 8) ++ bitsOf 16 (crc16 (coveredBits f)).toNat).map (⟨·, .body⟩)

/-- Insert a stuff bit of the opposite value after every run of six identical bits; it begins a new run (R62). -/
def stuff : Bool → Nat → List WireBit → List WireBit
  | _, _, [] => []
  | last, run, w :: rest =>
    let n := if w.bit = last then run + 1 else 1
    if n = 6 then w :: ⟨!w.bit, .stuff⟩ :: stuff (!w.bit) 1 rest else w :: stuff w.bit n rest

/-- The frame as the sender sends it: stuffed through the check field, then the acknowledge and hold bits left
recessive and nine recessive end bits, not stuffed (R62, R64, R67, R68). -/
def wireBits (f : Frame) : List WireBit :=
  stuff true 0 (plainBits f) ++
    (⟨true, .acknowledge⟩ :: ⟨true, .hold⟩ :: List.replicate 9 ⟨true, .ending⟩)

/-- The bytes of a level frame (R182). -/
def LevelFrame.bytes (f : LevelFrame) : List Byte :=
  let body := byteOf f.slot.number :: be16 f.level
  body ++ [crc8 body]

/-- The bits of a level frame as the port drives them: byte by byte, each high bit first (R182). -/
def LevelFrame.bits (f : LevelFrame) : List Bool := bitsOfBytes f.bytes

/-- One flag as a bit value. -/
def flag (b : Bool) (weight : Nat) : Nat := if b then weight else 0

/-- A slot entry of a beacon, and a slot-list entry of a dump: four bytes (R180). -/
def slotEntryBytes (e : NbSlot) : List Byte :=
  byteOf (e.operator * 16 + e.bias) :: byteOf e.sector ::
    be16 (e.load * 64 + e.fill * 8 + flag e.full 4 + flag e.stale 2 + flag e.off 1)

/-- A reading in a streamed record: mW, or °C in two's complement, in two bytes (R181). -/
def readingBytes (v : Int) : List Byte := be16 (v % 65536).toNat

/-- A streamed fault record of 19 bytes (R181). -/
def recordBytes (r : Record) : List Byte :=
  be16 r.seq ++
    [byteOf r.key.kind.position,
      byteOf (classCode r.key.kind.faultClass * 64 + flag r.active 32 + flag r.acked 16 + flag r.reading.isSome 8 +
        flag r.cleared.isSome 4),
      byteOf ((r.key.slot.map Slot.number).getD 0), byteOf (r.key.neighbour.getD 0)] ++
    readingBytes ((r.reading.map (·.1)).getD 0) ++ readingBytes ((r.reading.map (·.2)).getD 0) ++
    be32 r.raised ++ be32 (r.cleared.getD 0) ++ [byteOf r.repeats]

/-- A streamed neighbour record (R112, R181), with the two tests and the elapsed seconds as they stand at `now`. -/
def entryBytes (e : Entry) (relates shares : Bool) (now : Nat) : List Byte :=
  [byteOf (e.address * 4 + ageCode e.age),
    byteOf (stateCode e.reported * 64 + flag relates 32 + flag shares 16 + (e.period - 1))] ++
    be16 e.summary.toNat ++ [byteOf (min 255 ((now - e.heard) / 1000))] ++ e.slots.flatMap slotEntryBytes

/-- A streamed slot record of 20 bytes (R25, R181). -/
def slotRecordBytes (k : Slot) (r : SlotRecord) (budget : Nat) : List Byte :=
  [byteOf (k.number * 32 + flag r.enabled 16 + r.operator), byteOf r.sector] ++
    be16 r.nominal ++ be16 r.floor ++ be16 r.maximum ++ [byteOf r.riseFull] ++
    be16 (r.load * 64 + flag r.stale 32 + flag r.full 16 + flag r.off 8 + tripCode r.trip * 2) ++
    [byteOf (r.bias * 16 + r.fill)] ++ be16 r.request ++ be16 r.grant ++ be16 r.lastSent ++ be16 budget

/-- A signed value as one byte in two's complement (R183). -/
def signedByte (v : Int) : Byte := BitVec.ofInt 8 v

/-- Image bytes 3 to 30 as loaded and clamped: position 0 of table 4 (R181, R183). -/
def nodeSettingBytes (g : Setting) : List Byte :=
  be16 g.bCfg ++ [byteOf g.weight, byteOf g.shift] ++ be16 g.lFull ++
    [byteOf g.tSample, signedByte g.tDerate, signedByte g.tCrit, byteOf g.overLimit, byteOf g.returnLimit,
      byteOf g.tripFilter, byteOf g.maxRetries, byteOf g.holdOff, byteOf (rateCode g.rate), byteOf g.beaconPeriod,
      byteOf g.tRound, byteOf g.biasMax, byteOf g.fillMax] ++
    be16 g.hUp ++ be16 g.hDown ++ be16 g.lAct ++ [byteOf g.joinCount] ++ be16 g.mask.toNat

/-- The 9-byte slot entry as loaded and clamped: positions 1 to 6 of table 4 (R181, R183). -/
def slotSettingBytes (e : SlotSetting) : List Byte :=
  [byteOf e.operator, byteOf e.sector] ++ be16 e.nominal ++ be16 e.floor ++ be16 e.maximum ++ [byteOf e.riseFull]

end Sys2Proof.Machine
end

