-- ==== Sys2Proof/Machine/Operands.lean ====
section
/-! DEFINITION. What the bytes and samples that reach the part stand for: measurement frames (R26 to R28, R182), the
setting image (R157, R183), frames of the peer line (R61, R62, R64), beacon payloads (R82, R101, R180). -/

namespace Sys2Proof.Machine

/-- The length of a measurement frame in bits: 36 bytes (R182). -/
def measurementBits : Nat := 288

/-- A measurement frame of 36 bytes, each high bit first, whose CRC-8 matches, with the fields as carried; none for a
bad frame (R27, R182). Bits that do not make exactly 36 bytes are a frame of another length (log entry 35). -/
def parseMeasurement (bits : List Bool) : Option MeasFrame :=
  let bytes := bytesOfBits 36 bits
  if bits.length = measurementBits ∧ crc8 (bytes.take 35) = bytes.getD 35 0 then
    some
      { rise := .tabulate fun k => byteAt bytes (5 * (k.number - 1))
        occupancy := .tabulate fun k => wordAt bytes (5 * (k.number - 1) + 1)
        forward := .tabulate fun k => wordAt bytes (5 * (k.number - 1) + 3)
        compForward := wordAt bytes 30
        compReflected := wordAt bytes 32
        temperature := signedAt bytes 34 }
  else none

/-- The clamps of R28: occupancy at most 1000, temperature -40 to 125. -/
def clampMeasurement (m : MeasFrame) : MeasFrame :=
  { m with
    occupancy := m.occupancy.map (min 1000)
    temperature := clampInt (-40) 125 m.temperature }

/-- The trip filter: the largest of 1, 2, 4, 8 that does not exceed the value, and 1 for 0 (R44). -/
def tripFilterOf (v : Nat) : Nat := if 8 ≤ v then 8 else if 4 ≤ v then 4 else if 2 ≤ v then 2 else 1

/-- The bit rate that a rate code names, 250 kbit/s for a code that names none (R60, R183). -/
def rateOf (code : Nat) : BitRate := if code = 0 then .kbit125 else if code = 2 then .kbit500 else .kbit250

/-- The slot entry of slot `k`, clamped in the order of R2 (R183). -/
def slotSettingOf (image : List Byte) (k : Slot) : SlotSetting :=
  let at0 := 31 + 9 * (k.number - 1)
  let operator := byteAt image at0
  let maximum := min 10000 (wordAt image (at0 + 6))
  let nominal := min maximum (wordAt image (at0 + 2))
  { operator := if operator ≤ 15 then operator else 0
    sector := byteAt image (at0 + 1)
    nominal := nominal
    floor := min nominal (wordAt image (at0 + 4))
    maximum := maximum
    riseFull := max 16 (byteAt image (at0 + 8)) }

/-- The values of the image, each clamped as its owner gives (R2, R10, R30, R44, R60, R92, R114, R147, R159, R183).
Bytes 10 and 11 are read as two's complement, as R183 gives, so that the 130 and 140 of R30's example cannot be carried:
82h is -126 and loads as 20 (log entry 32). -/
def settingOf (image : List Byte) : Setting :=
  let tDerate := clampInt 20 121 (signedAt image 10)
  { bCfg := clampNat 100 20000 (wordAt image 3)
    weight := min 4 (byteAt image 5)
    shift := min 4 (byteAt image 6)
    lFull := clampNat 500 1000 (wordAt image 7)
    tSample := clampNat 1 10 (byteAt image 9)
    tDerate := tDerate
    tCrit := min 125 (max (tDerate + 4) (signedAt image 11))
    overLimit := clampNat 17 32 (byteAt image 12)
    returnLimit := clampNat 1 8 (byteAt image 13)
    tripFilter := tripFilterOf (byteAt image 14)
    maxRetries := min 7 (byteAt image 15)
    holdOff := clampNat 5 120 (byteAt image 16)
    rate := rateOf (byteAt image 17)
    beaconPeriod := clampNat 1 16 (byteAt image 18)
    tRound := clampNat 2 60 (byteAt image 19)
    biasMax := min 12 (byteAt image 20)
    fillMax := min 6 (byteAt image 21)
    hUp := clampNat 20 500 (wordAt image 22)
    hDown := clampNat 20 500 (wordAt image 24)
    lAct := min 1000 (wordAt image 26)
    joinCount := clampNat 2 8 (byteAt image 28)
    mask := BitVec.ofNat 16 (wordAt image 29)
    slots := .tabulate (slotSettingOf image) }

/-- The CRC-16 of an image: over its first 126 bytes (R157). -/
def imageCrc (image : List Byte) : BitVec 16 := crc16 (bitsOfBytes (image.take 126))

/-- The three checks of R157 on an image of 128 bytes: marker 57h 5Ah, version 1, check field. -/
def imageGood (image : List Byte) : Bool :=
  byteAt image 0 == 0x57 && byteAt image 1 == 0x5A && byteAt image 2 == 1 &&
    wordAt image 126 == (imageCrc image).toNat

/-- What a receiver finds on the line from a start bit on (R64): a good frame, noisy or not; a bad frame; a frame that
a break cuts off before its outcome (R75, R77); or no outcome within the samples given. -/
inductive Reception where
  | good (frame : Frame) (noisy : Bool)
  | bad
  | cut
  | unfinished
  deriving DecidableEq, Repr

/-- The receiver while it decodes: the unstuffed bits so far, newest first, the run of identical bits that ends at the
latest bit, and whether a noisy bit has fallen (R61, R62). -/
structure Decoder where
  bits : List Bool
  last : Bool
  run : Nat
  noisy : Bool
  deriving DecidableEq, Repr

/-- How many bits a frame has from its start bit to the end of its length field (R64). -/
def headerBits : Nat := 25

/-- The length field of the unstuffed bits from the start bit on (R64). -/
def lengthField (bits : List Bool) : Nat := natOf ((bits.drop 19).take 6)

/-- The frame that the unstuffed bits from the start bit on stand for (R64). -/
def frameOfBits (bits : List Bool) : Frame :=
  { priority := natOf ((bits.drop 1).take 2)
    source := natOf ((bits.drop 3).take 6)
    kind := natOf ((bits.drop 9).take 4)
    dest := natOf ((bits.drop 13).take 6)
    payload := bytesOfBits (lengthField bits) (bits.drop headerBits) }

/-- Whether the check field of the unstuffed bits is the CRC-16 from the first priority bit to the last payload bit
(R64). -/
def checkMatches (bits : List Bool) : Bool :=
  let body := headerBits + 8 * lengthField bits
  natOf ((bits.drop body).take 16) == (crc16 ((bits.take body).drop 1)).toNat

/-- How many dominant bits stand at the front of the samples. -/
def leadingDominant : List Sample → Nat
  | [] => 0
  | x :: rest => if x.majority then 0 else leadingDominant rest + 1

/-- Whether the unstuffed bits settle the frame's outcome at this bit (R64): a length field above 32 at its last bit,
or the check at the last bit of the check field. -/
def settledAt (bits : List Bool) (noisy : Bool) : Option Reception :=
  if bits.length < headerBits then none
  else if 32 < lengthField bits then some .bad
  else if bits.length < headerBits + 8 * lengthField bits + 16 then none
  else if checkMatches bits then some (.good (frameOfBits bits) noisy)
  else some .bad

/-- Decode sample by sample (R61, R62, R64). After six identical bits the next is a stuff bit; if it has the same value
the frame is bad, unless the dominant run goes on to 16 bit times: then a break cuts the frame off before an outcome
(R75, R77, log entry 7). The stuff bit that may follow the check field is not looked at (log entry 8). -/
def decodeFrom : Decoder → List Sample → Reception
  | _, [] => .unfinished
  | d, x :: rest =>
    let b := x.majority
    let noisy := d.noisy || x.noisy
    if d.run = 6 then
      if b = d.last then
        if !b && decide (16 ≤ 7 + leadingDominant rest) then .cut else .bad
      else decodeFrom { d with last := b, run := 1, noisy := noisy } rest
    else
      let bits := b :: d.bits
      match settledAt bits.reverse noisy with
      | some r => r
      | none => decodeFrom ⟨bits, b, if b = d.last then d.run + 1 else 1, noisy⟩ rest

/-- Decode a frame from its start bit, which is dominant (R63, R64). -/
def decodeFrame (line : List Sample) : Reception :=
  match line with
  | [] => .unfinished
  | x :: rest => if x.majority then .unfinished else decodeFrom ⟨[false], false, 1, x.noisy⟩ rest

/-- The node state that two bits name (R180). -/
def nodeStateOf (code : Nat) : NodeState :=
  if code = 0 then .unconfigured else if code = 1 then .joining else if code = 2 then .serving else .withdrawn

/-- A slot entry of a beacon as carried, four bytes from an index on (R180). -/
def slotEntryAt (bytes : List Byte) (i : Nat) : NbSlot :=
  let first := byteAt bytes i
  let pair := wordAt bytes (i + 2)
  { operator := first / 16
    sector := byteAt bytes (i + 1)
    load := pair / 64
    bias := first % 16
    fill := pair / 8 % 8
    full := pair.testBit 2
    stale := pair.testBit 1
    off := pair.testBit 0 }

/-- The clamps of R101. -/
def clampSlotEntry (e : NbSlot) : NbSlot :=
  { e with load := min 1000 e.load, bias := min 12 e.bias, fill := min 6 e.fill }

/-- Pass over entries of operator 0 and of an operator already taken, keeping the first of each (R101). -/
def keepFirst : List Nat → List NbSlot → List NbSlot
  | _, [] => []
  | seen, e :: rest =>
    if e.operator = 0 ∨ e.operator ∈ seen then keepFirst seen rest else e :: keepFirst (e.operator :: seen) rest

/-- A beacon's content as a receiver reads it (R95, R101, R102): reported state, declared period with its clamp, fault
summary and the slot list it brings. -/
structure BeaconContent where
  reported : NodeState
  period : Nat
  summary : BitVec 16
  slots : List NbSlot
  deriving DecidableEq, Repr

/-- The slot count of a beacon payload (R180). -/
def slotCountOf (payload : List Byte) : Nat := byteAt payload 1 % 8

/-- Whether a beacon payload has the length that its slot count, 0 to 6, calls for (R82). -/
def beaconShapeOk (payload : List Byte) : Bool :=
  decide (2 ≤ payload.length) && decide (slotCountOf payload ≤ 6) &&
    payload.length == 4 + 4 * slotCountOf payload

/-- Read a beacon payload whose shape is right (R101, R102, R180). -/
def beaconContent (payload : List Byte) : BeaconContent :=
  { reported := nodeStateOf (byteAt payload 0 / 64)
    period := clampNat 1 16 (byteAt payload 0 % 32)
    summary := BitVec.ofNat 16 (wordAt payload 2)
    slots :=
      keepFirst []
        ((List.range (slotCountOf payload)).map fun i => clampSlotEntry (slotEntryAt payload (4 + 4 * i))) }

end Sys2Proof.Machine
end

