-- ==== Sys2Proof/Machine/Ops.lean ====
section
/-! DEFINITION. The shared operations below the blocks' own work: the clock and the timers, the Fault Log and the fault
line (chapter 9), the level port (R17), the Transmit Queue with its marker, alarms and break requests (chapters 4
and 5). -/

namespace Sys2Proof.Machine

/-! ## Clock and timers -/

/-- The clock at a moment that is not before `due` (log entry 2). -/
def State.reach (due : Nat) (s : State) : State := { s with now := max s.now due }

/-- One millisecond with no command waiting: the clock alone advances, and not while the reset input is held
(log entry 2). -/
def State.tick (s : State) : State := if s.nc.resetHeld then s else { s with now := s.now + 1 }

/-- A timer started now from a full length in ms. -/
def State.timerFor (s : State) (ms : Nat) : Timer := .running (s.now + ms)

/-- When a running timer expires. -/
def Timer.due : Timer → Option Nat
  | .stopped => none
  | .running d => some d

/-! ## The Fault Log -/

/-- The key of a kind that takes neither slot nor neighbour address. -/
def Key.plain (k : Kind) : Key := ⟨k, none, none⟩
/-- The key of OVD or OVL for a slot. -/
def Key.ofSlot (k : Kind) (n : Slot) : Key := ⟨k, some n, none⟩
/-- The key of NBL for a neighbour address. -/
def Key.ofNeighbour (a : Nat) : Key := ⟨.nbl, none, some a⟩

/-- Whether the record is of the Severe class. -/
def Record.severe (r : Record) : Bool := r.key.kind.faultClass == .severe

/-- Whether the mask masks the kind: it has no effect on a Severe kind (R147). -/
def maskedKind (mask : BitVec 16) (k : Kind) : Bool := !(k.faultClass == .severe) && mask.getLsbD k.position

/-- Whether a record asserts the fault line: Active, and Severe or an unmasked Warning (R148). -/
def Record.asserts (mask : BitVec 16) (r : Record) : Bool :=
  r.active && (r.key.kind.faultClass == .severe ||
    (r.key.kind.faultClass == .warning && !maskedKind mask r.key.kind))

/-- Evaluate the fault line (R148). -/
def Recorder.evaluate (fr : Recorder) : Recorder :=
  { fr with faultLine := fr.log.any (Record.asserts fr.mask) }

/-- Whether the log holds an Active record with the key. -/
def Recorder.isActive (fr : Recorder) (k : Key) : Bool := fr.log.any fun r => r.key == k && r.active

/-- Whether the log holds an Active record of the Severe class (R164). -/
def Recorder.severeActive (fr : Recorder) : Bool := fr.log.any fun r => r.severe && r.active

/-- A record as created (R143). -/
def newRecord (seq now : Nat) (k : Key) (reading : Option (Int × Int)) : Record :=
  { seq := seq, key := k, reading := reading, raised := now / 1000, cleared := none, repeats := 1, active := true,
    acked := false }

/-- Reactivate a Cleared record (R143). -/
def Record.reactivate (now : Nat) (reading : Option (Int × Int)) (r : Record) : Record :=
  { r with
    active := true
    repeats := min 255 (r.repeats + 1)
    raised := now / 1000
    cleared := none
    reading := reading }

/-- Remove the oldest Cleared record, the first in log order (R144). -/
def dropOldestCleared (log : List Record) : List Record := log.eraseP fun r => !r.active

/-- Create a record (R143, R144). A full log makes room by removing its oldest Cleared record; the manual says that it
always holds one, and where it holds none the new record is not written (log entry 17). -/
def Recorder.create (fr : Recorder) (now : Nat) (k : Key) (reading : Option (Int × Int)) : Recorder :=
  let r := newRecord fr.nextSeq now k reading
  let next := (fr.nextSeq + 1) % 65536
  if fr.log.length < Config.logPlaces then { fr with log := fr.log ++ [r], nextSeq := next }
  else if fr.log.all Record.active then { fr with saturated := true }
  else { fr with log := dropOldestCleared fr.log ++ [r], nextSeq := next, saturated := true }

/-- Take a raise (R143): no change where a record with the key is Active, else reactivate the Cleared one, else
create. -/
def Recorder.raise (fr : Recorder) (now : Nat) (k : Key) (reading : Option (Int × Int)) : Recorder :=
  if fr.isActive k then fr
  else if fr.log.any (fun r => r.key == k) then
    ({ fr with log := fr.log.map fun r => if r.key = k then r.reactivate now reading else r } : Recorder).evaluate
  else (fr.create now k reading).evaluate

/-- What a clear makes of one Active record: removed where acknowledged, else Cleared now (R146). -/
def Record.ended (now : Nat) (r : Record) : Option Record :=
  if r.acked then none else some { r with active := false, cleared := some (now / 1000) }

/-- Take a clear (R146). -/
def Recorder.clear (fr : Recorder) (now : Nat) (k : Key) : Recorder :=
  if fr.isActive k then
    ({ fr with
        log := fr.log.filterMap fun r =>
          if r.key = k ∧ r.active then r.ended now else some r } : Recorder).evaluate
  else fr

/-- Clear every Active record, in log order (R153). -/
def Recorder.clearAll (fr : Recorder) (now : Nat) : Recorder :=
  ({ fr with log := fr.log.filterMap fun r => if r.active then r.ended now else some r } : Recorder).evaluate

/-- Whether an acknowledgement up to `upTo` covers a sequence number: (s - r) modulo 65536 below 32768 (R151). -/
def covers (upTo seq : Nat) : Bool := decide ((upTo + 65536 - seq) % 65536 < 32768)

/-- Whether an acknowledgement newly acknowledges the record (R151). -/
def Record.ackedBy (upTo : Nat) (r : Record) : Bool := covers upTo r.seq && !r.acked

/-- Take ACK_FAULTS: Active records become acknowledged, Cleared ones are removed, the log-saturated flag is cleared
(R151). Neither the summary nor the fault line changes. -/
def Recorder.acknowledge (fr : Recorder) (upTo : Nat) : Recorder :=
  { fr with
    log := fr.log.filterMap fun r =>
      if r.ackedBy upTo then (if r.active then some { r with acked := true } else none) else some r
    saturated := false }

/-- The fault summary: one flag for each unmasked kind with an Active record (R95, R148). -/
def Recorder.summary (fr : Recorder) : BitVec 16 :=
  Kind.all.foldl (fun acc k =>
    if fr.log.any (fun r => r.active && r.key.kind == k) && !maskedKind fr.mask k
    then acc ||| BitVec.twoPow 16 k.position else acc) 0#16

/-- Take a raise without the work that a Severe record brings (R143): for kinds of the Warning and Info classes. -/
def raiseRecord (k : Key) (reading : Option (Int × Int)) (s : State) : State :=
  { s with fr := s.fr.raise s.now k reading }

/-- Take a clear (R146). -/
def clearRecord (k : Key) (s : State) : State := { s with fr := s.fr.clear s.now k }

/-! ## The level port -/

/-- The level port begins a frame, or stands idle: the frame being sent and its bits on the port (R17, R182). -/
def Allocator.startLevel (ca : Allocator) (f : Option LevelFrame) : Allocator :=
  { ca with levelSending := f, levelBits := (f.map LevelFrame.bits).getD [] }

/-- Hand a level frame to the level port (R17): it takes the place of a waiting frame for its slot, else joins the
end; an idle port begins it at once (log entry 5). -/
def Allocator.handOver (ca : Allocator) (f : LevelFrame) : Allocator :=
  if ca.levelSending.isNone && ca.levelQueue.isEmpty then ca.startLevel (some f)
  else if ca.levelQueue.any (fun g => g.slot == f.slot) then
    { ca with levelQueue := ca.levelQueue.map fun g => if g.slot = f.slot then f else g }
  else { ca with levelQueue := ca.levelQueue ++ [f] }

/-- Hand over a level for a slot and set its last-sent level (R16, R19, R24). -/
def Allocator.sendLevel (ca : Allocator) (k : Slot) (level : Nat) : Allocator :=
  let out := ca.handOver ⟨k, level⟩
  { out with slots := out.slots.modify k fun r => { r with lastSent := level } }

/-! ## The Transmit Queue -/

/-- The priority of an entry (R88). -/
def TxEntry.priority : TxEntry → Nat
  | .marker urgent => if urgent then 0 else 3
  | .reply _ _ _ => 1
  | .stream _ _ _ => 2

/-- Which kind of entry it is. -/
def TxEntry.kind : TxEntry → EntryKind
  | .marker _ => .beacon
  | .reply _ _ _ => .reply
  | .stream _ _ _ => .stream

/-- Put an entry at its place: priority order, lowest value first, then arrival (R88). -/
def insertEntry (e : TxEntry) : List TxEntry → List TxEntry
  | [] => [e]
  | x :: rest => if e.priority < x.priority then e :: x :: rest else x :: insertEntry e rest

/-- Whether an entry is the beacon marker. -/
def TxEntry.isMarker (e : TxEntry) : Bool := e.kind == .beacon

/-- Whether the queue holds a beacon marker. -/
def Line.hasMarker (lc : Line) : Bool := lc.txQueue.any TxEntry.isMarker

/-- How many of the shared places are taken (R88). -/
def Line.sharedTaken (lc : Line) : Nat := (lc.txQueue.filter fun e => !e.isMarker).length

/-- Whether a shared place is free (R90). -/
def Line.sharedFree (lc : Line) : Bool := decide (lc.sharedTaken < Config.sharedPlaces)

/-- Remove the first entry of a kind: the entry that an attempt of that kind sends (R89). -/
def removeFirst (k : EntryKind) (q : List TxEntry) : List TxEntry := q.eraseP fun e => e.kind == k

/-- Set a marker at priority 3 where there is none (R91). -/
def Line.setMarker (lc : Line) : Line :=
  if lc.hasMarker then lc else { lc with txQueue := insertEntry (.marker false) lc.txQueue }

/-- Set a marker at priority 0, or raise the one there is (R91). -/
def Line.urgentMarker (lc : Line) : Line :=
  { lc with txQueue := insertEntry (.marker true) (lc.txQueue.filter fun e => !e.isMarker) }

/-- Whether the marker's beacon is between its start bit and the settling of its attempt (R91). -/
def Line.beaconUnderWay (lc : Line) : Bool :=
  match lc.phase with
  | .quiet => false
  | .sending a => a.owner == .beacon
  | .errored a queued _ => a.owner == .beacon && queued
  | .sendingBreak => false

/-- An alarm cause (R91, R93, R97): it sets or raises the marker; while the marker's beacon is under way it is recorded
as a follow-up; during a soft restart it sets none. -/
def alarm (s : State) : State :=
  if s.nc.restart = .inProgress then s
  else if s.lc.beaconUnderWay then { s with lc := { s.lc with followUp := true } }
  else { s with lc := s.lc.urgentMarker }

/-- Act on a recorded follow-up when the attempt has ended (R91). -/
def Line.takeFollowUp (lc : Line) : Line :=
  if lc.followUp then { lc.urgentMarker with followUp := false } else lc

/-- A break request (R76): dropped outside Normal, and within 10 s of the last break sent. -/
def breakRequest (s : State) : State :=
  if s.lc.mode = .normal ∧ (∀ t ∈ s.lc.lastBreak, t + Config.breakSpacing ≤ s.now) then
    { s with lc := { s.lc with pendingBreak := true } }
  else s

end Sys2Proof.Machine
end

