-- ==== Sys2Proof/Machine/Flags.lean ====
section
/-! DEFINITION. The conditions and flags that the manual computes from State: participation (R6), the off flags (R7),
the full flag (R34), the related and sharing tests (R100). -/

namespace Sys2Proof.Machine

/-- Whether a soft restart is in progress. -/
def State.restarting (s : State) : Bool := s.nc.restart == .inProgress

/-- Whether the node state is Joining or Serving. -/
def State.onAir (s : State) : Bool := s.nc.state == some .joining || s.nc.state == some .serving

/-- Whether the node state is Joining, Serving or Withdrawn. -/
def State.configured (s : State) : Bool := s.onAir || s.nc.state == some .withdrawn

/-- Whether a slot participates in allocation (R6). -/
def State.participates (s : State) (k : Slot) : Bool :=
  (s.ca.slots.get k).enabled && (s.ca.slots.get k).trip == .clear && s.onAir && !s.restarting && !s.mi.mute

/-- What the off flag of a slot is (R7). -/
def State.offNow (s : State) (k : Slot) : Bool :=
  (s.ca.slots.get k).enabled && !s.restarting &&
    (!((s.ca.slots.get k).trip == .clear) || s.mi.mute || s.nc.state == some .withdrawn)

/-- Evaluate every slot's off flag, and report a change on an enabled slot as an alarm cause (R7, R93). -/
def evaluateOff (s : State) : State :=
  let changed := Slot.all.any fun k =>
    (s.ca.slots.get k).enabled && !((s.ca.slots.get k).off == s.offNow k)
  let out : State :=
    { s with ca := { s.ca with slots := .tabulate fun k => { s.ca.slots.get k with off := s.offNow k } } }
  if changed then alarm out else out

/-- Whether load indices are updated: a configured state and no soft restart in progress (R31). -/
def State.loadsUpdated (s : State) : Bool := s.configured && !s.restarting

/-- Whether a slot list holds the operator of an enabled slot with that slot's sector tag (R100). -/
def relatesTo (slots : List NbSlot) (operator sector : Nat) : Bool :=
  slots.any fun e => e.operator == operator && e.sector == sector

/-- Whether an entry relates to the node (R100). -/
def State.relates (s : State) (e : Entry) : Bool :=
  s.ca.slots.any fun r => r.enabled && relatesTo e.slots r.operator r.sector

/-- Whether an entry shares an operator with the node (R100). -/
def State.shares (s : State) (e : Entry) : Bool :=
  s.ca.slots.any fun r => r.enabled && e.slots.any fun n => n.operator == r.operator

/-- Whether the strap address names a zone node, 1 to 60 (R158). -/
def State.strapValid (s : State) : Bool :=
  decide (1 ≤ s.nc.strap.toNat) && decide (s.nc.strap.toNat ≤ 60)

end Sys2Proof.Machine
end

