-- ==== Sys2Proof/Machine/Allocation.lean ====
section
/-! DEFINITION. The allocation pass (R8 to R18), the actions at a trip (R19) and the budget in force (R10). -/

namespace Sys2Proof.Machine

/-- The trim table of R8, in units of 1/1024: factors of net -12 to +6. -/
def trimTable : List Nat :=
  [257, 289, 324, 363, 408, 457, 513, 576, 646, 725, 813, 913, 1024, 1149, 1289, 1446, 1623, 1821, 2043]

/-- The factor of a net trim (R8); outside the table a free value (log entry 16). -/
def trimFactor (net : Int) : Nat :=
  if -12 ≤ net ∧ net ≤ 6 then trimTable.getD (net + 12).toNat 0 else Config.factorOutsideTable net

/-- The net trim: fill minus bias (R8). -/
def SlotRecord.net (r : SlotRecord) : Int := (r.fill : Int) - (r.bias : Int)

/-- The request of a participating slot (R9). -/
def SlotRecord.wanted (r : SlotRecord) : Nat := min r.maximum (r.nominal * trimFactor r.net / 1024)

/-- The budget in force for a composite budget and a derate step (R10). -/
def budgetOf (bCfg d : Nat) : Nat := bCfg * (16 - d) / 16

/-- B_cfg of the image held, 0 while none is loaded (R10). -/
def State.bCfg (s : State) : Nat := (s.nc.setting.map Setting.bCfg).getD 0

/-- Recompute the budget in force (R10). -/
def recomputeBudget (s : State) : State :=
  { s with ca := { s.ca with budget := budgetOf s.bCfg s.mi.derate } }

/-- The requests of a pass: 0 for a slot that does not participate (R6, R11 step 1). -/
def State.requests (s : State) : Six Nat :=
  .tabulate fun k => if s.participates k then (s.ca.slots.get k).wanted else 0

/-- The effective floors of a pass, 0 for a slot that does not participate (R11 step 3). -/
def State.floors (s : State) : Six Nat :=
  .tabulate fun k => if s.participates k then min (s.ca.slots.get k).floor (s.requests.get k) else 0

/-- The grants of a pass from the requests, the effective floors and the budget (R11 to R14). -/
def shareOut (requests floors : Six Nat) (budget : Nat) : Six Nat :=
  if requests.sum ≤ budget then requests
  else if floors.sum ≤ budget then
    let spare := budget - floors.sum
    let excess : Six Nat := .tabulate fun k => requests.get k - floors.get k
    .tabulate fun k => floors.get k + excess.get k * spare / excess.sum
  else .tabulate fun k => floors.get k * budget / floors.sum

/-- Whether the pass ends in Case C (R11, R14). -/
def floorsShort (requests floors : Six Nat) (budget : Nat) : Bool :=
  !decide (requests.sum ≤ budget) && !decide (floors.sum ≤ budget)

/-- The clean-run timers at a pass (R52). -/
def State.cleanRunTimers (s : State) : Six SlotGuard :=
  .tabulate fun k =>
    let g := s.pm.slots.get k
    if s.participates k then
      if 0 < g.retry ∧ g.cleanRun = .stopped then
        { g with cleanRun := s.timerFor (4 * (s.nc.setting.map Setting.holdOff).getD 0 * 1000) }
      else g
    else { g with cleanRun := .stopped }

/-- Whether a pass hands a level frame for a slot: its grant differs from its last-sent level (R16). -/
def SlotRecord.needsFrame (r : SlotRecord) : Bool := !(r.grant == r.lastSent)

/-- The end of a pass for one slot: the level frame and the settle flags it brings (R16, R18). -/
def handLevel (k : Slot) (s : State) : State :=
  if (s.ca.slots.get k).needsFrame then
    { s with
      ca := s.ca.sendLevel k (s.ca.slots.get k).grant
      pm := { s.pm with antSettle := true, slots := s.pm.slots.modify k fun g => { g with settle := true } } }
  else s

/-- Write the requests and the grants (R11 step 5), and the clean-run timers (R52). -/
def allot (s : State) : State :=
  let grants := shareOut s.requests s.floors s.ca.budget
  { s with
    ca :=
      { s.ca with
        slots := .tabulate fun k =>
          { s.ca.slots.get k with request := s.requests.get k, grant := grants.get k } }
    pm := { s.pm with slots := s.cleanRunTimers } }

/-- An allocation pass (R11): participation and requests, grants by case, FLR raised in Case C and cleared in Cases A
and B (R14), then the level frames in slot order. -/
def pass (s : State) : State :=
  let out := allot s
  let out :=
    if floorsShort s.requests s.floors s.ca.budget then raiseRecord (.plain .flr) none out
    else clearRecord (.plain .flr) out
  Slot.all.foldl (fun t k => handLevel k t) out

/-- What the Carriage Allocator does when a slot leaves Clear (R19): off flag, level 0 frame, settle flags, pass. -/
def tripActions (k : Slot) (s : State) : State :=
  let s := evaluateOff s
  let s : State := if (s.ca.slots.get k).lastSent = 0 then s else { s with ca := s.ca.sendLevel k 0 }
  pass
    { s with pm := { s.pm with antSettle := true, slots := s.pm.slots.modify k fun g => { g with settle := true } } }

end Sys2Proof.Machine
end

