-- ==== Sys2Proof/Machine/NodeControl.lean ====
section
/-! DEFINITION. The node states and their entries (chapter 10), the abandoning of a round (R119), raising a fault with
its alarm cause and escalation (R143, R149, R150). -/

namespace Sys2Proof.Machine

/-- Set the bias and fill of every slot to 0 (R22). -/
def zeroTrims (s : State) : State :=
  { s with ca := { s.ca with slots := s.ca.slots.map fun r => { r with bias := 0, fill := 0 } } }

/-- Abandon a round in flight and stop the round timer (R115, R119). -/
def abandonRound (s : State) : State := { s with su := { roundTimer := .stopped, round := none } }

/-- The Carriage Allocator's work at a change of node state, once the trims are settled: off flags, then the pass
(R7, R20), and the alarm cause of the change (R93). -/
def stateChanged (s : State) : State := alarm (pass (evaluateOff s))

/-- Entry to Withdrawn (R163): the round abandoned, the join timer stopped, trims 0, off flags, the pass, the break
request and the alarm. -/
def enterWithdrawn (s : State) : State :=
  let s := abandonRound s
  let s : State := { s with nc := { s.nc with state := some .withdrawn, joinTimer := .stopped } }
  breakRequest (stateChanged (zeroTrims s))

/-- The Fault Recorder has Node Control enter Withdrawn (R149, R163): from Joining or Serving, outside a soft restart
in progress. -/
def withdraw (s : State) : State :=
  if s.onAir ∧ ¬ s.restarting then enterWithdrawn s else s

/-- Whether another record is Severe, Active and unacknowledged (R149). -/
def Recorder.otherSevere (fr : Recorder) (k : Key) : Bool :=
  fr.log.any fun r => !(r.key == k) && r.severe && r.active && !r.acked

/-- Raise a fault (R143): the record; where a Severe record becomes Active the alarm cause (R93) and escalation
(R149); for ANT also the break request of the raise itself and the entry to Withdrawn (R76, R150). -/
def raiseFault (k : Key) (reading : Option (Int × Int)) (s : State) : State :=
  let out := raiseRecord k reading s
  let became := !s.fr.isActive k && out.fr.isActive k
  if k.kind.faultClass = .severe then
    let out := if became then alarm out else out
    let out := if became && out.fr.otherSevere k then withdraw out else out
    if k.kind = .ant then
      let out := if became then withdraw out else out
      breakRequest out
    else out
  else out

/-- Start the sample timer from its full length (R35). -/
def startSampleTimer (s : State) : State :=
  { s with
    mi := { s.mi with sampleTimer := .running (s.now + (s.nc.setting.map Setting.tSample).getD 0 * 1000) } }

/-- The beacon period that the image gives (R92). -/
def State.imagePeriod (s : State) : Nat := (s.nc.setting.map Setting.beaconPeriod).getD 0

/-- Start the beacon timer from the full length of a period in half-seconds, which becomes the declared period (R92). -/
def startBeaconTimer (period : Nat) (s : State) : State :=
  { s with lc := { s.lc with beaconPeriod := some period, beaconTimer := s.timerFor (period * 500) } }

/-- Entry to Joining (R161): trims 0, off flags, pass and alarm; the sample timer started if it is not running, the
beacon timer and the join timer started from their full lengths. An expired sample timer is started too, by R35 and
R161, where R36 step 4 would leave it expired until the next good frame (log entry 36). -/
def enterJoining (s : State) : State :=
  let s : State := { s with nc := { s.nc with state := some .joining } }
  let s := stateChanged (zeroTrims s)
  let s := match s.mi.sampleTimer with
    | .running _ => s
    | .stopped => startSampleTimer s
    | .expired => startSampleTimer s
  let s := startBeaconTimer s.imagePeriod s
  let length := (s.nc.setting.map Setting.joinCount).getD 0 * s.imagePeriod * 500
  { s with nc := { s.nc with joinTimer := s.timerFor length } }

/-- Entry to Serving (R162): off flags, pass and alarm, and the round timer started from its full length. -/
def enterServing (s : State) : State :=
  let s : State := { s with nc := { s.nc with state := some .serving, joinTimer := .stopped } }
  let s := stateChanged s
  { s with su := { s.su with roundTimer := s.timerFor ((s.nc.setting.map Setting.tRound).getD 0 * 1000) } }

/-- The image-derived values of a slot while no good image is loaded (R4). -/
def SlotRecord.unloaded (r : SlotRecord) : SlotRecord :=
  { r with
    enabled := false
    operator := 0
    sector := 0
    nominal := 0
    floor := 0
    maximum := 0
    riseFull := 16 }

/-- No image is held: the slot fields of R4, B and B_cfg 0, the mask clear, no parameters (R4, R10, R30, R44, R114,
R147). -/
def unloadImage (s : State) : State :=
  let s : State := { s with nc := { s.nc with setting := none } }
  let s : State := { s with ca := { s.ca with slots := s.ca.slots.map SlotRecord.unloaded, budget := 0 } }
  { s with fr := ({ s.fr with mask := 0 } : Recorder).evaluate }

/-- Entry to Unconfigured (R160): the slot fields of R4 are already in place; the sample timer stopped, derate 0 and
mute off, trims 0, off flags, pass and alarm, the beacon timer at 4 half-seconds. -/
def enterUnconfigured (s : State) : State :=
  let s : State := { s with mi := { s.mi with sampleTimer := .stopped, derate := 0, mute := false } }
  let s : State := { s with nc := { s.nc with state := some .unconfigured, joinTimer := .stopped } }
  startBeaconTimer Config.unconfiguredPeriod (stateChanged (zeroTrims (abandonRound s)))

/-- The enabled flags by operator id, the first slot to carry an id keeping it (R2, R3). -/
def enabledBy (e : Six SlotSetting) (k : Slot) : Bool :=
  let op := (e.get k).operator
  decide (op ≠ 0) && !(Slot.all.any fun j => decide (j.number < k.number) && (e.get j).operator == op)

/-- The image-derived fields of a slot from its entry (R2, R3). -/
def SlotRecord.loaded (e : Six SlotSetting) (k : Slot) (r : SlotRecord) : SlotRecord :=
  { r with
    enabled := enabledBy e k
    operator := (e.get k).operator
    sector := (e.get k).sector
    nominal := (e.get k).nominal
    floor := (e.get k).floor
    maximum := (e.get k).maximum
    riseFull := (e.get k).riseFull }

/-- Load a good image (R159): every block takes its parameters, the budget is recomputed, the fault line is evaluated
with the new mask. The bit rate is taken when the line's use begins. -/
def loadImage (g : Setting) (s : State) : State :=
  let s : State := { s with nc := { s.nc with setting := some g } }
  let s : State :=
    { s with ca := { s.ca with slots := .tabulate fun k => (s.ca.slots.get k).loaded g.slots k } }
  let s := recomputeBudget s
  { s with fr := ({ s.fr with mask := g.mask } : Recorder).evaluate }

/-- The Line Controller begins to use the line at a rate and in a mode (R79): not idle until 12 recessive bit times. -/
def beginLine (rate : BitRate) (mode : LineMode) (s : State) : State :=
  { s with
    lc :=
      { s.lc with
        inUse := true
        rate := rate
        mode := mode
        idleNeed := Config.shortGap
        idleCount := 0 } }

end Sys2Proof.Machine
end

