-- ==== Sys2Proof/Machine/Measurement.lean ====
section
/-! DEFINITION. MEASUREMENT_FRAME (chapters 2 and 3): the work of Measurement Intake on a good frame (R29) and the
tests of the Protection Monitor (R45 to R56); SAMPLE_TIMER_EXPIRY, HOLD_OFF_EXPIRY, CLEAN_RUN_EXPIRY (R36, R51, R52). -/

namespace Sys2Proof.Machine

/-- While the reset input is held the part does not act (R156); otherwise the event's effect. -/
def unlessHeld (s : State) (t : State) : Host.Outcome State Fault Refusal :=
  if s.nc.resetHeld then .next s else .next t

/-! ## Load -/

/-- The instantaneous load (R32). -/
def instantLoad (rise occupancy riseFull weight : Nat) : Nat :=
  (occupancy * weight + min 1000 (rise * 1000 / riseFull) * (4 - weight)) / 4

/-- The load index moved toward the instantaneous load by the gap over 2^k, truncated toward zero (R33). -/
def movedLoad (load target shift : Nat) : Nat :=
  if load ≤ target then load + (target - load) / 2 ^ shift else load - (load - target) / 2 ^ shift

/-- Load index and full flag of an enabled slot (R33, R34). -/
def SlotRecord.withLoad (g : Setting) (m : MeasFrame) (k : Slot) (r : SlotRecord) : SlotRecord :=
  if r.enabled then
    let load := movedLoad r.load (instantLoad (m.rise.get k) (m.occupancy.get k) r.riseFull g.weight) g.shift
    { r with load := load, full := decide (g.lFull ≤ load) }
  else r

/-- Steps 3 and 4 of R29: stale flags and SMP cleared, loads and full flags anew. -/
def updateLoads (g : Setting) (m : MeasFrame) (s : State) : State :=
  let s := clearRecord (.plain .smp) s
  { s with
    ca :=
      { s.ca with
        slots := .tabulate fun k => ({ s.ca.slots.get k with stale := false } : SlotRecord).withLoad g m k } }

/-- Step 2 of R29: a running sample timer restarts, an expired one starts again, a stopped one stays stopped. -/
def refreshSampleTimer (s : State) : State :=
  match s.mi.sampleTimer with
  | .stopped => s
  | .running _ => startSampleTimer s
  | .expired => startSampleTimer s

/-! ## Protection tests -/

/-- Whether a slot is tested for over-drive, on the state at the frame's arrival (R47). -/
def State.slotTested (a : State) (k : Slot) : Bool :=
  a.configured && !a.restarting && a.nc.setting.isSome && a.participates k &&
    decide (20 ≤ (a.ca.slots.get k).grant) && !(a.pm.slots.get k).settle

/-- Write a slot's filter count. -/
def setFilter (k : Slot) (n : Nat) (s : State) : State :=
  { s with pm := { s.pm with slots := s.pm.slots.modify k fun g => { g with filter := n } } }

/-- A trip of a slot (R49, R50): new trip state from the retry count and the fill as they stand, the clean-run timer
stopped, the Carriage Allocator's actions, the record with the arrival grant's limit, the hold-off timer. -/
def tripSlot (g : Setting) (a : State) (forward : Nat) (k : Slot) (s : State) : State :=
  let retries := decide ((s.pm.slots.get k).retry < g.maxRetries) && (s.ca.slots.get k).fill == 0
  let trip := if retries then TripState.tripped else TripState.latched
  let s : State := { s with ca := { s.ca with slots := s.ca.slots.modify k fun r => { r with trip := trip } } }
  let s : State :=
    { s with
      pm := { s.pm with slots := s.pm.slots.modify k fun p => { p with filter := 0, cleanRun := .stopped } } }
  let s := tripActions k s
  let limit := (a.ca.slots.get k).grant * g.overLimit / 16
  let kind := if retries then Kind.ovd else Kind.ovl
  let s := raiseFault (.ofSlot kind k) (some ((forward : Int), (limit : Int))) s
  if retries then
    { s with
      pm := { s.pm with slots := s.pm.slots.modify k fun p => { p with holdOff := s.timerFor (g.holdOff * 1000) } } }
  else s

/-- The over-drive test of one slot on a frame, decided on the arrival state `a` (R45 step 1, R47, R48). -/
def testSlot (g : Setting) (a : State) (m : MeasFrame) (s : State) (k : Slot) : State :=
  let forward := m.forward.get k
  if a.slotTested k then
    if (a.ca.slots.get k).grant * g.overLimit < forward * 16 then
      let n := (s.pm.slots.get k).filter + 1
      if g.tripFilter ≤ n then tripSlot g a forward k s else setFilter k n s
    else setFilter k 0 s
  else setFilter k 0 s

/-- Write the antenna filter count. -/
def setAntFilter (n : Nat) (s : State) : State := { s with pm := { s.pm with antFilter := n } }

/-- The antenna latches (R56): latch set, count 0, ANT raised. -/
def latchAntenna (g : Setting) (m : MeasFrame) (s : State) : State :=
  let s : State := { s with pm := { s.pm with antLatch := true, antFilter := 0 } }
  raiseFault (.plain .ant)
    (some ((m.compReflected : Int), ((m.compForward * g.returnLimit / 16 : Nat) : Int))) s

/-- Whether the antenna is tested, on the arrival state (R55). -/
def State.antennaTested (a : State) (m : MeasFrame) : Bool :=
  a.configured && !a.restarting && a.nc.setting.isSome && !a.pm.antLatch && !a.pm.antSettle &&
    decide (50 ≤ m.compForward)

/-- The antenna return test on a frame (R45 step 2, R55). -/
def testAntenna (g : Setting) (a : State) (m : MeasFrame) (s : State) : State :=
  if a.antennaTested m then
    if m.compForward * g.returnLimit < m.compReflected * 16 then
      if g.tripFilter ≤ s.pm.antFilter + 1 then latchAntenna g m s else setAntFilter (s.pm.antFilter + 1) s
    else setAntFilter 0 s
  else setAntFilter 0 s

/-- Clear every settle flag that was set on arrival (R45 step 3). -/
def clearSettled (a : State) (s : State) : State :=
  { s with
    pm :=
      { s.pm with
        antSettle := s.pm.antSettle && !a.pm.antSettle
        slots := .tabulate fun k =>
          { s.pm.slots.get k with settle := (s.pm.slots.get k).settle && !(a.pm.slots.get k).settle } } }

/-- With no image held no test runs, so every filter count is 0 after the frame (R44, R47, R55). -/
def clearFilters (s : State) : State :=
  { s with
    pm := { s.pm with antFilter := 0, slots := s.pm.slots.map fun g => { g with filter := 0 } } }

/-- The Protection Monitor's work on a good frame (R45). -/
def protect (m : MeasFrame) (s : State) : State :=
  let tested := match s.nc.setting with
    | none => clearFilters s
    | some g => testAntenna g s m (Slot.all.foldl (testSlot g s m) s)
  clearSettled s tested

/-! ## Derating and mute -/

/-- The derate step that a temperature calls for (R38). -/
def computedStep (g : Setting) (t : Int) : Nat :=
  if t < g.tDerate then 0 else min 8 (((t - g.tDerate) / 2).toNat + 1)

/-- The derate step after a frame: up at once, down by one step with a margin of 3 °C (R38, R39). -/
def nextStep (g : Setting) (d : Nat) (t : Int) : Nat :=
  let c := computedStep g t
  if d < c then c
  else if c < d ∧ t ≤ g.tDerate + 2 * ((d : Int) - 1) - 3 then d - 1
  else d

/-- Thermal mute after a frame (R41). -/
def nextMute (g : Setting) (mute : Bool) (t : Int) : Bool :=
  if mute then !decide (t ≤ g.tCrit - 5) else decide (g.tCrit ≤ t)

/-- Raise or clear THM where the derate step changes from or to 0 (R40). -/
def reportDerate (g : Setting) (before after : Nat) (t : Int) (s : State) : State :=
  if before = 0 ∧ 0 < after then raiseFault (.plain .thm) (some (t, g.tDerate)) s
  else if 0 < before ∧ after = 0 then clearRecord (.plain .thm) s
  else s

/-- Raise or clear THX where thermal mute changes (R41). -/
def reportMute (g : Setting) (before after : Bool) (t : Int) (s : State) : State :=
  if after && !before then raiseFault (.plain .thx) (some (t, g.tCrit)) s
  else if before && !after then clearRecord (.plain .thx) s
  else s

/-- Step 6 of R29: derate step and mute from the temperature; where either changes, the budget recomputed, the records,
the off flags and one pass (R21, R38 to R41, log entry 14). -/
def thermal (g : Setting) (t : Int) (s : State) : State :=
  let d := nextStep g s.mi.derate t
  let mute := nextMute g s.mi.mute t
  if d = s.mi.derate ∧ mute = s.mi.mute then s
  else
    let out := recomputeBudget { s with mi := { s.mi with derate := d, mute := mute } }
    let out := reportDerate g s.mi.derate d t out
    let out := reportMute g s.mi.mute mute t out
    pass (evaluateOff out)

/-- Step 6 of R29 in a node that holds an image, nothing in one that holds none (R30). -/
def thermalWork (m : MeasFrame) (s : State) : State :=
  match s.nc.setting with
  | none => s
  | some g => thermal g m.temperature s

/-- Steps 3 and 4 of R29 where load indices are updated (R31). -/
def loadWork (m : MeasFrame) (s : State) : State :=
  match s.nc.setting with
  | none => s
  | some g => if s.loadsUpdated then updateLoads g m s else s

/-- The work on a good frame, in the order of R29. -/
def goodFrame (m : MeasFrame) (s : State) : State :=
  let s : State := { s with mi := { s.mi with lastFrame := some m } }
  thermalWork m (protect m (loadWork m (refreshSampleTimer s)))

/-- MEASUREMENT_FRAME (R26 to R29): a bad frame is discarded whole. -/
def execMeasurementFrame (bits : List Bool) (s : State) : Host.Outcome State Fault Refusal :=
  unlessHeld s <|
    match parseMeasurement bits with
    | none => s
    | some m => goodFrame (clampMeasurement m) s

/-! ## The timers of Measurement Intake and the Protection Monitor -/

/-- SAMPLE_TIMER_EXPIRY (R36): every stale flag set, SMP raised, the timer left expired. -/
def execSampleTimerExpiry (s : State) : Host.Outcome State Fault Refusal :=
  unlessHeld s <|
    match s.mi.sampleTimer with
    | .stopped => s
    | .expired => s
    | .running due =>
      let s := s.reach due
      let s : State :=
        { s with ca := { s.ca with slots := s.ca.slots.map fun r => { r with stale := true } } }
      let s := raiseFault (.plain .smp) none s
      { s with mi := { s.mi with sampleTimer := .expired } }

/-- A slot released at its hold-off expiry (R51): retry count raised, trip state Clear, OVD cleared, timer stopped, then
off flags and a pass. -/
def release (k : Slot) (s : State) : State :=
  let s : State :=
    { s with
      pm := { s.pm with slots := s.pm.slots.modify k fun p => { p with retry := p.retry + 1, holdOff := .stopped } }
      ca := { s.ca with slots := s.ca.slots.modify k fun r => { r with trip := .clear } } }
  pass (evaluateOff (clearRecord (.ofSlot .ovd k) s))

/-- HOLD_OFF_EXPIRY (R51), for a slot whose hold-off timer runs. -/
def execHoldOffExpiry (k : Slot) (s : State) : Host.Outcome State Fault Refusal :=
  unlessHeld s <|
    match (s.pm.slots.get k).holdOff with
    | .stopped => s
    | .running due => release k (s.reach due)

/-- CLEAN_RUN_EXPIRY (R52), for a slot whose clean-run timer runs: retry count 0, timer stopped. -/
def execCleanRunExpiry (k : Slot) (s : State) : Host.Outcome State Fault Refusal :=
  unlessHeld s <|
    match (s.pm.slots.get k).cleanRun with
    | .stopped => s
    | .running due =>
      let s := s.reach due
      { s with
        pm := { s.pm with slots := s.pm.slots.modify k fun p => { p with retry := 0, cleanRun := .stopped } } }

end Sys2Proof.Machine
end

