-- ==== Sys2Proof/Machine/LineControl.lean ====
section
/-! DEFINITION. The Line Controller: idle (R63), sending and arbitration (R65, R66), heard and unheard (R67, R74), bit
errors and their settlement (R69, R70), line modes (R71, R72), breaks (R76 to R78), beacons (R91 to R96). -/

namespace Sys2Proof.Machine

/-! ## What leaves the Transmit Queue is reported to its owner -/

/-- The RESTART reply has left or been dropped: the pending soft restart is due (R165). -/
def restartReplyGone (s : State) : State :=
  if s.nc.restart = .pending then { s with nc := { s.nc with restartDue := true } } else s

/-- A stream frame left the queue, recorded heard or not; a removal after a bit error counts as unheard (R178). -/
def streamFrameEnded (final heard : Bool) (s : State) : State :=
  match s.cu.stream with
  | none => s
  | some c =>
    let n := if heard then 0 else c.unheard + 1
    { s with cu := { s.cu with stream := if final ∨ 2 ≤ n then none else some { c with unheard := n } } }

/-- Report an entry that leaves the queue to the Command Unit and Stream Engine (R89, R170, R178). -/
def reportLeft (heard : Bool) (s : State) : TxEntry → State
  | .marker _ => s
  | .reply _ _ restart => if restart then restartReplyGone s else s
  | .stream _ _ final => streamFrameEnded final heard s

/-- Remove the entry that an attempt of a kind sends, and report it (R70, R89). -/
def removeAttempted (k : EntryKind) (heard : Bool) (s : State) : State :=
  match s.lc.txQueue.find? fun e => e.kind == k with
  | none => s
  | some e => reportLeft heard { s with lc := { s.lc with txQueue := removeFirst k s.lc.txQueue } } e

/-! ## Entry to Listen-only -/

/-- Whether the RESTART reply that a pending restart waits for is among the replies queued or waiting. -/
def State.holdsRestartReply (s : State) : Bool :=
  s.lc.txQueue.any (fun e => match e with
    | .marker _ => false
    | .reply _ _ restart => restart
    | .stream _ _ _ => false) ||
  (match s.cu.current with
    | none => false
    | some c => c.reply.restart)

/-- An attempt not yet settled whose entry is emptied from the queue; the marker stays (R71). -/
def TxPhase.emptied : TxPhase → TxPhase
  | .quiet => .quiet
  | .sending a => .sending a
  | .errored a queued rest => .errored a (queued && a.owner == .beacon) rest
  | .sendingBreak => .sendingBreak

/-- Empty the Transmit Queue except the marker, drop the waiting reply and the pending break, abandon a running stream
(R71, R90, R179); neither the acknowledge nor the hold bit is driven (R71). -/
def emptyForListenOnly (s : State) : State :=
  let s : State := if s.holdsRestartReply then restartReplyGone s else s
  { s with
    lc :=
      { s.lc with
        txQueue := s.lc.txQueue.filter TxEntry.isMarker
        pendingBreak := false
        phase := s.lc.phase.emptied
        ackDriven := false
        holdDriven := false }
    cu := { current := none, stream := none } }

/-- Start the cool-down timer at a length in seconds, which the Line Controller then holds (R71, R72). -/
def startCoolDown (seconds : Nat) (s : State) : State :=
  { s with lc := { s.lc with coolLength := seconds, coolTimer := s.timerFor (seconds * 1000) } }

/-- Put the line mode at a value. -/
def setMode (m : LineMode) (s : State) : State := { s with lc := { s.lc with mode := m } }

/-- The cool-down length after a failed probe or a duplicate address while Probing: doubled, up to 240 s (R72, R73). -/
def Line.longerCoolDown (lc : Line) : Nat := min Config.coolDownMost (2 * lc.coolLength)

/-- Entry to Listen-only from Normal when the transmit error count has reached 8 (R71). -/
def enterListenOnly (s : State) : State :=
  startCoolDown Config.coolDownFirst
    (emptyForListenOnly (raiseFault (.plain .txf) none (setMode .listenOnly s)))

/-- A probe's bit error settled with no break between: back to Listen-only, the cool-down doubled (R72). -/
def probeFailed (s : State) : State :=
  emptyForListenOnly
    (raiseFault (.plain .txf) none (startCoolDown s.lc.longerCoolDown (setMode .listenOnly s)))

/-- A good frame with the node's own address that it did not send (R73). -/
def duplicateAddress (s : State) : State :=
  match s.lc.mode with
  | .normal =>
    startCoolDown Config.coolDownFirst
      (emptyForListenOnly (raiseFault (.plain .dup) none (setMode .listenOnly s)))
  | .probing =>
    raiseFault (.plain .dup) none
      (startCoolDown s.lc.longerCoolDown (emptyForListenOnly (setMode .listenOnly s)))
  | .listenOnly => raiseFault (.plain .dup) none s

/-! ## Beacons -/

/-- The slot entry of an enabled slot as it stands (R25, R96). -/
def SlotRecord.beaconEntry (r : SlotRecord) : NbSlot :=
  ⟨r.operator, r.sector, r.load, r.bias, r.fill, r.full, r.stale, r.off⟩

/-- The slot entries of a beacon: one for each enabled slot, in slot order (R25, R96). -/
def State.beaconSlots (s : State) : List NbSlot :=
  (s.ca.slots.toList.filter SlotRecord.enabled).map SlotRecord.beaconEntry

/-- The declared beacon period in force, a free value before any state is entered (R92, log entry 19). -/
def State.declaredPeriod (s : State) : Nat := s.lc.beaconPeriod.getD Config.periodBeforeEntry

/-- The payload of a beacon built from the node as it stands (R94 to R96, R180). -/
def State.beaconPayload (s : State) : List Byte :=
  [byteOf (stateCodeOf s.nc.state * 64 + flag s.fr.saturated 32 + s.declaredPeriod),
    byteOf s.beaconSlots.length] ++
    be16 s.fr.summary.toNat ++ s.beaconSlots.flatMap slotEntryBytes

/-- The frame that an attempt of an entry sends (R80, R94): kinds 1, 3 and 4 with their destinations and
priorities. -/
def State.frameFor (s : State) (e : TxEntry) : Frame :=
  let (kind, dest, payload) : Nat × Nat × List Byte := match e with
    | .marker _ => (1, 0, s.beaconPayload)
    | .reply dest payload _ => (3, dest, payload)
    | .stream dest payload _ => (4, dest, payload)
  { priority := e.priority, source := s.nc.strap.toNat, kind := kind, dest := dest, payload := payload }

/-! ## Idle and the start of a transmission -/

/-- Whether a count of recessive bit times makes the line idle (R63). -/
def Line.idleAt (lc : Line) (recessive : Nat) : Bool := !lc.breakRun && decide (lc.idleNeed ≤ recessive)

/-- The idle count as counted. -/
def countIdle (recessive : Nat) (s : State) : State := { s with lc := { s.lc with idleCount := recessive } }

/-- The entry that may be attempted in the line mode (R65, R72, R89). -/
def Line.nextEntry (lc : Line) : Option TxEntry :=
  match lc.mode with
  | .normal => lc.txQueue.head?
  | .probing => lc.txQueue.find? TxEntry.isMarker
  | .listenOnly => none

/-- The start bit of an entry's frame (R65). -/
def startFrame (e : TxEntry) (s : State) : State :=
  let attempt : Attempt := { owner := e.kind, frame := s.frameFor e, probe := s.lc.mode == .probing }
  { s with lc := { s.lc with phase := .sending attempt, breakSeen := false, idleCount := 0 } }

/-- The start of a pending break (R76). -/
def startBreak (s : State) : State :=
  { s with
    lc :=
      { s.lc with
        phase := .sendingBreak
        breakSeen := false
        pendingBreak := false
        lastBreak := some s.now
        idleCount := 0 } }

/-- TRANSMISSION_START (R65): at idle, a pending break in place of a start, else the start bit of the chosen entry. -/
def execTransmissionStart (recessive : Nat) (s : State) : Host.Outcome State Fault Refusal :=
  unlessHeld s <|
    if s.lc.inUse ∧ s.lc.phase = .quiet then
      let counted := countIdle recessive s
      if s.lc.idleAt recessive then
        if s.lc.pendingBreak ∧ s.lc.mode = .normal then startBreak counted
        else
          match s.lc.nextEntry with
          | none => counted
          | some e => startFrame e counted
      else counted
    else s

/-! ## Ends of an attempt -/

/-- The record of a beacon as heard or unheard (R67, R74). -/
def recordBeacon (heard : Bool) (s : State) : State :=
  if heard then clearRecord (.plain .iso) { s with lc := { s.lc with unheard := 0 } }
  else
    let n := min 3 (s.lc.unheard + 1)
    let s : State := { s with lc := { s.lc with unheard := n } }
    if n = 3 then raiseFault (.plain .iso) none s else s

/-- The idle-gap requirement after a frame whose hold bit was dominant or not (R63, R68). -/
def gapAfter (hold : Bool) : Nat := if hold then Config.longGap else Config.shortGap

/-- A frame ends on the line: the requirement is set and the idle count starts again (R63). -/
def frameEnds (hold : Bool) (s : State) : State :=
  { s with lc := { s.lc with idleNeed := gapAfter hold, idleCount := 0 } }

/-- Put the transmission's phase at a value. -/
def setPhase (p : TxPhase) (s : State) : State := { s with lc := { s.lc with phase := p } }

/-- Act on an alarm follow-up, once the attempt has ended (R91). -/
def takeFollowUp (s : State) : State := { s with lc := s.lc.takeFollowUp }

/-- What a wire position holds and what is read back there, where the node is sending a frame. -/
def Line.sentAt (lc : Line) (position : Nat) : Option (Attempt × WireBit) :=
  match lc.phase with
  | .quiet => none
  | .sending a => ((wireBits a.frame)[position]?).map fun w => (a, w)
  | .errored _ _ _ => none
  | .sendingBreak => none

/-- Whether a read-back of an arbitration bit loses the arbitration: sent recessive, read dominant (R66). -/
def losesArbitration (w : WireBit) (readBack : Sample) : Bool :=
  w.role == .arbitration && w.bit && !readBack.majority

/-- Whether a read-back is a bit error (R66, R69): a value other than the one sent, outside the acknowledge and hold
bits, and in the arbitration field only a dominant bit read recessive. -/
def isBitError (w : WireBit) (readBack : Sample) : Bool :=
  (w.bit != readBack.majority) && !(w.role == .acknowledge) && !(w.role == .hold) &&
    !losesArbitration w readBack

/-- ARBITRATION_LOST (R66): the node stops driving and receives the rest; its entry stays. -/
def execArbitrationLost (position : Nat) (readBack : Sample) (s : State) : Host.Outcome State Fault Refusal :=
  unlessHeld s <|
    match s.lc.sentAt position with
    | none => s
    | some (_, w) => if losesArbitration w readBack then takeFollowUp (setPhase .quiet s) else s

/-- What a bit error before the end field leaves on the line: in the stuff bit after the last check bit, which is the
twelfth bit from the frame's end, the rest of a frame that the node sent in the sense of R73, and before it the rest of
one that it did not send. -/
def restAfter (f : Frame) (position : Nat) (w : WireBit) : FrameRest :=
  if w.role = .stuff ∧ position + 12 = (wireBits f).length then .sent else .unsent

/-- BIT_ERROR (R69): the node stops driving and marks the entry. In the end field the acknowledge bit has been read, so
a beacon's record stands (R67), and the frame has ended with its hold bit (R63, log entry 9); before it the rest of the
frame is still on the line. -/
def execBitError (position : Nat) (readBack : Sample) (ack hold : Bool) (s : State) :
    Host.Outcome State Fault Refusal :=
  unlessHeld s <|
    match s.lc.sentAt position with
    | none => s
    | some (a, w) =>
      if isBitError w readBack then
        if w.role = .ending then
          let s := setPhase (.errored a true .over) (frameEnds hold s)
          if a.owner = .beacon then recordBeacon ack s else s
        else setPhase (.errored a true (restAfter a.frame position w)) (frameEnds false s)
      else s

/-- The transmit error count falls by 1 at a clean frame (R70). -/
def countClean (s : State) : State := { s with lc := { s.lc with txErrors := s.lc.txErrors - 1 } }

/-- A probe sent clean (R72): Normal, count 0, cool-down length 30 s, TXF and DUP cleared. -/
def probeSucceeded (s : State) : State :=
  clearRecord (.plain .dup)
    (clearRecord (.plain .txf)
      { s with
        lc :=
          { s.lc with
            mode := .normal
            txErrors := 0
            coolLength := Config.coolDownFirst
            coolTimer := .stopped } })

/-- TRANSMIT_FRAME_END (R67, R70): a clean frame ends; its entry leaves with its record. -/
def execTransmitFrameEnd (ack hold : Bool) (s : State) : Host.Outcome State Fault Refusal :=
  unlessHeld s <|
    match s.lc.phase with
    | .quiet => s
    | .sendingBreak => s
    | .errored _ _ _ => s
    | .sending a =>
      let s := setPhase .quiet (countClean (frameEnds hold s))
      let s := removeAttempted a.owner ack s
      if a.owner = .beacon then
        let s := if a.probe && s.lc.mode == .probing then probeSucceeded s else s
        takeFollowUp (recordBeacon ack s)
      else s

/-- The transmit error count rises by 1, up to 8 (R70). -/
def countError (s : State) : State :=
  { s with lc := { s.lc with txErrors := min Config.errorLimit (s.lc.txErrors + 1) } }

/-- BIT_ERROR_SETTLE (R70, R72): at the first idle after a bit error. After a break nothing is counted and the entry
stays; otherwise the count rises, the entry is removed, and Listen-only is entered at 8 from Normal or by a failed
probe. -/
def settle (a : Attempt) (queued : Bool) (s : State) : State :=
  let s := setPhase .quiet s
  if s.lc.breakSeen then takeFollowUp s
  else
    let s := countError s
    let s := if queued then removeAttempted a.owner false s else s
    let s :=
      if a.probe && s.lc.mode == .probing then probeFailed s
      else if s.lc.mode == .normal && decide (Config.errorLimit ≤ s.lc.txErrors) then enterListenOnly s
      else s
    takeFollowUp s

/-- BIT_ERROR_SETTLE (R70), once the line is idle. -/
def execBitErrorSettle (recessive : Nat) (s : State) : Host.Outcome State Fault Refusal :=
  unlessHeld s <|
    match s.lc.phase with
    | .quiet => s
    | .sending _ => s
    | .sendingBreak => s
    | .errored a queued _ =>
      let counted := countIdle recessive s
      if s.lc.idleAt recessive then settle a queued counted else counted

/-! ## Breaks, the beacon timer and the cool-down timer -/

/-- The rest of a frame in which the node met a bit error is over at a break (R77). -/
def TxPhase.cutOff : TxPhase → TxPhase
  | .quiet => .quiet
  | .sending a => .sending a
  | .errored a queued _ => .errored a queued .over
  | .sendingBreak => .sendingBreak

/-- BREAK_DETECTED (R77, R78): recorded for the settlement; a Normal node that did not send it sets a marker. -/
def execBreakDetected (s : State) : Host.Outcome State Fault Refusal :=
  unlessHeld s <|
    if s.lc.inUse ∧ s.lc.breakRun = false then
      let lc := { s.lc with breakRun := true, breakSeen := true, idleCount := 0, phase := s.lc.phase.cutOff }
      { s with lc := if s.lc.mode = .normal ∧ s.lc.phase ≠ .sendingBreak then lc.setMarker else lc }
    else s

/-- A break the node was sending is over. -/
def TxPhase.afterBreak : TxPhase → TxPhase
  | .quiet => .quiet
  | .sending a => .sending a
  | .errored a queued rest => .errored a queued rest
  | .sendingBreak => .quiet

/-- BREAK_END (R63, R77): the idle count runs from here with requirement 12. -/
def execBreakEnd (s : State) : Host.Outcome State Fault Refusal :=
  unlessHeld s <|
    if s.lc.breakRun then
      { s with
        lc :=
          { s.lc with
            breakRun := false
            idleNeed := Config.shortGap
            idleCount := 0
            phase := s.lc.phase.afterBreak } }
    else s

/-- BEACON_TIMER_EXPIRY (R91, R92): a marker at priority 3 where there is none; the timer starts again. -/
def execBeaconTimerExpiry (s : State) : Host.Outcome State Fault Refusal :=
  unlessHeld s <|
    match s.lc.beaconTimer with
    | .stopped => s
    | .running due =>
      let s := s.reach due
      { s with lc := { s.lc.setMarker with beaconTimer := s.timerFor (s.declaredPeriod * 500) } }

/-- COOL_DOWN_EXPIRY (R72): Probing, with a marker at priority 3 where there is none. -/
def execCoolDownExpiry (s : State) : Host.Outcome State Fault Refusal :=
  unlessHeld s <|
    match s.lc.coolTimer with
    | .stopped => s
    | .running due =>
      let s := s.reach due
      { s with lc := { s.lc.setMarker with mode := .probing, coolTimer := .stopped } }

end Sys2Proof.Machine
end

