-- ==== Sys2Proof/Machine/Rounds.lean ====
section
/-! DEFINITION. Spread rounds (chapter 7) with coverage fill (chapter 8): ROUND_TIMER_EXPIRY, ROUND_COMMIT; and
JOIN_TIMER_EXPIRY (R162). -/

namespace Sys2Proof.Machine

/-- The slot-list entry that carries an operator id; a slot list carries distinct ids (R99, R126). -/
def matching (operator : Nat) (slots : List NbSlot) : Option NbSlot := slots.find? fun n => n.operator == operator

/-- Whether an entry of the reading is a source of fill demand for a slot (R123, R131). -/
def ReadEntry.demands (e : ReadEntry) (r : ReadSlot) : Bool :=
  relatesTo e.slots r.operator r.sector &&
    (e.age == .silent || e.reported == .withdrawn ||
      e.slots.any fun n => n.operator == r.operator && n.sector == r.sector && n.off)

/-- Whether a slot has fill demand in a reading (R132). -/
def Reading.hasDemand (g : Reading) (r : ReadSlot) : Bool := g.entries.any fun e => e.demands r

/-- The matching slot-list entry of a candidate: Present, Serving, the slot's operator in another sector (R126). -/
def ReadEntry.candidate (e : ReadEntry) (r : ReadSlot) : Option NbSlot :=
  if e.age = .present ∧ e.reported = .serving then
    match matching r.operator e.slots with
    | some n => if n.sector = r.sector then none else some n
    | none => none
  else none

/-- The candidates' matching slot-list entries (R126). -/
def Reading.candidates (g : Reading) (r : ReadSlot) : List NbSlot := g.entries.filterMap fun e => e.candidate r

/-- Whether a candidate is a partner: none of full, stale and off (R126). -/
def NbSlot.isPartner (n : NbSlot) : Bool := !n.full && !n.stale && !n.off

/-- The partners' matching slot-list entries (R126). -/
def Reading.partners (g : Reading) (r : ReadSlot) : List NbSlot := (g.candidates r).filter NbSlot.isPartner

/-- The mean load of a list of partners, truncated (R127). -/
def meanLoad (partners : List NbSlot) : Nat := (partners.map NbSlot.load).sum / partners.length

/-- The new bias of a slot in case 6 (R127). -/
def compareBias (g : Reading) (r : ReadSlot) : Nat :=
  if (g.candidates r).isEmpty then r.bias - 1
  else if (g.partners r).isEmpty then r.bias
  else
    let e : Int := (r.load : Int) - (meanLoad (g.partners r) : Int)
    if g.params.lAct ≤ r.load ∧ (g.params.hUp : Int) < e then min (r.bias + 1) g.params.biasMax
    else if e < -(g.params.hDown : Int) ∨ r.load < g.params.lAct then r.bias - 1
    else r.bias

/-- The decision for one slot: the first case that applies (R120 to R127). -/
def decideSlot (g : Reading) (r : ReadSlot) : Trims :=
  if r.trip ≠ .clear then ⟨0, 0⟩
  else if g.iso then ⟨r.bias - 1, r.fill - 1⟩
  else if g.hasDemand r then ⟨0, min (r.fill + 1) g.params.fillMax⟩
  else if 0 < r.fill then ⟨0, r.fill - 1⟩
  else if r.stale then ⟨r.bias - 1, 0⟩
  else ⟨compareBias g r, 0⟩

/-- What a round reads of a slot: nothing of a disabled one (R116). -/
def SlotRecord.read (r : SlotRecord) : Option ReadSlot :=
  if r.enabled then some ⟨r.operator, r.sector, r.load, r.stale, r.trip, r.bias, r.fill⟩ else none

/-- What a round reads of a neighbour entry (R116). -/
def Entry.read (e : Entry) : ReadEntry := ⟨e.address, e.age, e.reported, e.slots⟩

/-- The parameters of R114 that a round reads. -/
def Setting.spread (g : Setting) : SpreadParams := ⟨g.tRound, g.biasMax, g.fillMax, g.hUp, g.hDown, g.lAct⟩

/-- The reading of a round that begins now (R116). -/
def State.takeReading (s : State) (g : Setting) : Reading :=
  { slots := s.ca.slots.map SlotRecord.read
    entries := s.nt.map Entry.read
    iso := s.fr.isActive (.plain .iso)
    params := g.spread }

/-- A round as it begins: the reading and what it decides for each enabled slot (R116). -/
def roundOf (reading : Reading) : Round :=
  { reading := reading, decided := reading.slots.map fun r => r.map (decideSlot reading) }

/-- ROUND_TIMER_EXPIRY (R115, R116): a round begins and the timer starts again from its full length. -/
def execRoundTimerExpiry (s : State) : Host.Outcome State Fault Refusal :=
  unlessHeld s <|
    match s.su.roundTimer, s.nc.setting with
    | .running due, some g =>
      let s := s.reach due
      { s with su := { roundTimer := s.timerFor (g.tRound * 1000), round := some (roundOf (s.takeReading g)) } }
    | _, _ => s

/-- A slot's record after the commit: the decided trims, or 0 and 0 where the slot is not Clear now (R118). -/
def SlotRecord.commit (decided : Option Trims) (r : SlotRecord) : SlotRecord :=
  if r.enabled then
    if r.trip = .clear then
      { r with bias := (decided.map Trims.bias).getD r.bias, fill := (decided.map Trims.fill).getD r.fill }
    else { r with bias := 0, fill := 0 }
  else r

/-- The commit of a round (R118 steps 1 to 3). -/
def commit (r : Round) (s : State) : State :=
  let s : State :=
    { s with
      ca := { s.ca with slots := .tabulate fun k => (s.ca.slots.get k).commit (r.decided.get k) } }
  let s := pass s
  { s with su := { s.su with round := none } }

/-- ROUND_COMMIT (R118), for a round in flight; the hold on the head of the Receive Queue ends with it. -/
def execRoundCommit (s : State) : Host.Outcome State Fault Refusal :=
  unlessHeld s <|
    match s.su.round with
    | none => s
    | some r => commit r s

/-- JOIN_TIMER_EXPIRY (R162), for a running join timer: the node enters Serving. -/
def execJoinTimerExpiry (s : State) : Host.Outcome State Fault Refusal :=
  unlessHeld s <|
    match s.nc.joinTimer with
    | .stopped => s
    | .running due => enterServing (s.reach due)

end Sys2Proof.Machine
end

