-- ==== Sys2Proof/Machine/Neighbours.lean ====
section
/-! DEFINITION. The Neighbour Table (chapter 6): applying a beacon (R101 to R104) and the deadlines (R105 to R107). -/

namespace Sys2Proof.Machine

/-- The entry's period as a duration in ms: half-seconds (R105). -/
def Entry.periodMs (e : Entry) : Nat := e.period * 500

/-- The Stale deadline (R105). -/
def Entry.staleDue (e : Entry) : Nat := e.heard + 2 * e.periodMs
/-- The Silent deadline (R105). -/
def Entry.silentDue (e : Entry) : Nat := e.heard + 4 * e.periodMs
/-- The Gone deadline (R105). -/
def Entry.goneDue (e : Entry) : Nat := e.heard + 16 * e.periodMs

/-- The entry for an address. -/
def entryOf (address : Nat) (nt : List Entry) : Option Entry := nt.find? fun e => e.address == address

/-- Change the entry for an address, in its place. -/
def changeEntry (address : Nat) (f : Entry → Entry) (nt : List Entry) : List Entry :=
  nt.map fun e => if e.address = address then f e else e

/-- Remove the entry for an address; those after it move up (R98). -/
def removeEntry (address : Nat) (nt : List Entry) : List Entry := nt.filter fun e => !(e.address == address)

/-- Clear the NBL record of an entry that was Silent (R108). -/
def clearNbl (e : Entry) (s : State) : State :=
  if e.age = .silent then clearRecord (.ofNeighbour e.address) s else s

/-- An entry with a beacon applied to it (R102): an Unconfigured report keeps the slot list with its off flags set. -/
def Entry.heardAgain (b : BeaconContent) (now : Nat) (e : Entry) : Entry :=
  { e with
    age := .present
    heard := now
    period := b.period
    reported := b.reported
    summary := b.summary
    slots := if b.reported = .unconfigured then e.slots.map (fun n => { n with off := true }) else b.slots
    goneFallen := false }

/-- An entry as created by a beacon (R103). -/
def newEntry (address : Nat) (b : BeaconContent) (now : Nat) : Entry :=
  { address := address
    age := .present
    heard := now
    period := b.period
    reported := b.reported
    summary := b.summary
    slots := if b.reported = .unconfigured then [] else b.slots
    goneFallen := false }

/-- The entry heard longest ago, the earlier in table order where two were heard at one time (R104). -/
def heardLongestAgo : List Entry → Option Entry
  | [] => none
  | e :: rest =>
    match heardLongestAgo rest with
    | none => some e
    | some other => if other.heard < e.heard then some other else some e

/-- The entry that a newcomer replaces in a full table: the candidate heard longest ago among those that share no
operator with the node (R104). -/
def State.replaceable (s : State) : Option Entry := heardLongestAgo (s.nt.filter fun e => !s.shares e)

/-- Apply a beacon from an address to the Neighbour Table (R102, R103, R104). -/
def applyBeacon (address : Nat) (b : BeaconContent) (s : State) : State :=
  match entryOf address s.nt with
  | some e => clearNbl e { s with nt := changeEntry address (Entry.heardAgain b s.now) s.nt }
  | none =>
    if s.nt.length < Config.tablePlaces then { s with nt := s.nt ++ [newEntry address b s.now] }
    else
      match s.replaceable with
      | none => s
      | some old => clearNbl old { s with nt := removeEntry old.address s.nt ++ [newEntry address b s.now] }

/-- STALE_DEADLINE (R105), for an entry that is Present. -/
def execStaleDeadline (address : Nat) (s : State) : Host.Outcome State Fault Refusal :=
  unlessHeld s <|
    match entryOf address s.nt with
    | none => s
    | some e =>
      if e.age = .present then
        { s.reach e.staleDue with nt := changeEntry address (fun x => { x with age := .stale }) s.nt }
      else s

/-- SILENT_DEADLINE (R106), for an entry that is not yet Silent: it becomes Silent and NBL is raised. -/
def execSilentDeadline (address : Nat) (s : State) : Host.Outcome State Fault Refusal :=
  unlessHeld s <|
    match entryOf address s.nt with
    | none => s
    | some e =>
      if e.age = .silent then s
      else
        raiseFault (.ofNeighbour address) none
          { s.reach e.silentDue with nt := changeEntry address (fun x => { x with age := .silent }) s.nt }

/-- GONE_DEADLINE (R107), for a Silent entry whose Gone deadline has not fallen (log entry 21): it stays where it
relates to the node, and is removed with NBL cleared where it does not. -/
def execGoneDeadline (address : Nat) (s : State) : Host.Outcome State Fault Refusal :=
  unlessHeld s <|
    match entryOf address s.nt with
    | none => s
    | some e =>
      if e.age = .silent ∧ e.goneFallen = false then
        let s := s.reach e.goneDue
        if s.relates e then
          { s with nt := changeEntry address (fun x => { x with goneFallen := true }) s.nt }
        else clearNbl e { s with nt := removeEntry address s.nt }
      else s

end Sys2Proof.Machine
end

