-- ==== Sys2Proof/Machine/Receive.lean ====
section
/-! DEFINITION. PEER_FRAME_RECEIVED: the outcome of a frame, the duplicate address check, the offer to the Receive
Queue, the acknowledge and hold bits, the Line Quality Window (R64, R67, R68, R73, R75, R86, R87); and the Frame
Processor's BEACON_APPLY and FRAME_DROP (R81, R82, R84). -/

namespace Sys2Proof.Machine

/-- The node's own station address. -/
def State.ownAddress (s : State) : Nat := s.nc.strap.toNat

/-- Noisy and bad outcomes of a window (R75). -/
def damagedCount (w : List LineOutcome) : Nat := (w.filter fun o => !(o == .good)).length

/-- The window with an outcome appended, the oldest removed at the 17th (R75). -/
def appended (w : List LineOutcome) (o : LineOutcome) : List LineOutcome :=
  (w ++ [o]).drop (w.length + 1 - Config.windowPlaces)

/-- Append an outcome to the Line Quality Window and raise or clear LNQ by its count (R75). -/
def appendOutcome (o : LineOutcome) (s : State) : State :=
  let w := appended s.lc.window o
  let s : State := { s with lc := { s.lc with window := w } }
  if 4 ≤ damagedCount w then raiseFault (.plain .lnq) none s
  else if damagedCount w ≤ 1 then clearRecord (.plain .lnq) s
  else s

/-- Whether a frame is evidence of a duplicate address: its source is the node's own; a node with an invalid strap
address makes no check (R73). The node did not send the frame, since it is receiving it. -/
def State.seesTwin (s : State) (f : Frame) : Bool := s.strapValid && f.source == s.ownAddress

/-- Whether a frame is addressed to the node (R64, R86). -/
def State.addressed (s : State) (f : Frame) : Bool := f.dest == 0 || f.dest == s.ownAddress

/-- Whether the Receive Queue takes an offered frame (R86). -/
def Line.hasRoom (lc : Line) : Bool := decide (lc.rxQueue.length < Config.rxPlaces)

/-- A frame offered to a full Receive Queue: RXO raised and cleared in the one event (R87, R145). -/
def overrun (s : State) : State := clearRecord (.plain .rxo) (raiseFault (.plain .rxo) none s)

/-- Offer a frame to the Receive Queue where it is addressed to the node (R86, R87). -/
def offer (f : Frame) (s : State) : State :=
  if s.addressed f then
    if s.lc.hasRoom then { s with lc := { s.lc with rxQueue := s.lc.rxQueue ++ [f] } } else overrun s
  else s

/-- Whether the line mode lets the node drive the acknowledge and hold bits (R67, R68). -/
def Line.answers (lc : Line) : Bool := !(lc.mode == .listenOnly)

/-- Write the acknowledge and hold bits that the node drives for a received frame. -/
def driveBits (ack hold : Bool) (s : State) : State :=
  { s with lc := { s.lc with ackDriven := ack, holdDriven := hold } }

/-- The duplicate address check on a good frame (R64 step 1, R73). -/
def checkTwin (f : Frame) (s : State) : State := if s.seesTwin f then duplicateAddress s else s

/-- A good frame in full (R64): its outcome, the duplicate address check, the offer, the acknowledge bit for a frame
taken, the hold bit where the queue then holds 4 frames, and the frame's end. -/
def takeFrame (f : Frame) (noisy othersHold : Bool) (s : State) : State :=
  let s := appendOutcome (if noisy then .noisy else .good) s
  let s := checkTwin f s
  let room := s.lc.hasRoom
  let s := offer f s
  let ack := s.addressed f && room && s.lc.answers
  let hold := !s.lc.hasRoom && s.lc.answers
  frameEnds (hold || othersHold) (driveBits ack hold s)

/-- A bad frame (R64, R75): decoding stops there, neither bit is driven. -/
def takeBadFrame (s : State) : State := frameEnds false (driveBits false false (appendOutcome .bad s))

/-- Whether the frame in which the node met a bit error is one that it did not send in the sense of R73: the error fell
before the end of its check field. -/
def Line.restUnsent (lc : Line) : Bool :=
  match lc.phase with
  | .quiet => false
  | .sending _ => false
  | .errored _ _ rest => rest == .unsent
  | .sendingBreak => false

/-- The rest of a frame in which the node met a bit error in its own sending (R69): only the duplicate address check,
of a frame that the node did not send (R73), and where that applies the offer of R73 (log entry 10); the frame's hold
bit and its end act as on every station. -/
def takeRest (f : Frame) (othersHold : Bool) (s : State) : State :=
  let s := if s.lc.restUnsent && s.seesTwin f then offer f (duplicateAddress s) else s
  frameEnds othersHold (driveBits false false s)

/-- The frame in which the node met a bit error has ended on the line. -/
def closeFrame (s : State) : State :=
  match s.lc.phase with
  | .quiet => s
  | .sending _ => s
  | .errored a queued _ => setPhase (.errored a queued .over) s
  | .sendingBreak => s

/-- Whether the frame on the line is one in which the node met a bit error (R69). -/
def Line.inOwnErroredFrame (lc : Line) : Bool :=
  match lc.phase with
  | .quiet => false
  | .sending _ => false
  | .errored _ _ rest => !(rest == .over)
  | .sendingBreak => false

/-- Whether the node is driving the line with a frame or a break of its own. -/
def Line.driving (lc : Line) : Bool :=
  match lc.phase with
  | .quiet => false
  | .sending _ => true
  | .errored _ _ _ => false
  | .sendingBreak => true

/-- A frame decoded from its start bit by a node that takes no part in it (R64). A frame cut off by a break, or not
ended within the samples, has no outcome. -/
def receiveFrame (line : List Sample) (othersHold : Bool) (s : State) : State :=
  match decodeFrame line with
  | .unfinished => s
  | .cut => s
  | .bad => takeBadFrame s
  | .good f noisy => takeFrame f noisy othersHold s

/-- The rest of a frame in which the node met a bit error in its own sending (R69). -/
def receiveRest (line : List Sample) (othersHold : Bool) (s : State) : State :=
  match decodeFrame line with
  | .unfinished => s
  | .cut => s
  | .bad => closeFrame (frameEnds false (driveBits false false s))
  | .good f _ => closeFrame (takeRest f othersHold s)

/-- Whether the samples begin with a dominant bit. -/
def beginsDominant (line : List Sample) : Bool :=
  match line with
  | [] => false
  | x :: _ => !x.majority

/-- PEER_FRAME_RECEIVED (R63, R64): the rest of a frame that the node was sending; or, at idle, a frame from its start
bit on. Before the line is idle R63 takes the dominant bit for noise that restarts the idle count, and R65 lets the node
decode the frame of another station as a receiver: which of the two is a free value (log entry 34). -/
def execPeerFrameReceived (line : Arrival) (othersHold : Bool) (s : State) : Host.Outcome State Fault Refusal :=
  unlessHeld s <|
    if s.lc.inUse ∧ s.lc.driving = false ∧ s.lc.breakRun = false then
      if s.lc.inOwnErroredFrame then receiveRest line.samples othersHold s
      else if s.lc.idleAt line.recessive ∨ Config.decodesBeforeIdle then receiveFrame line.samples othersHold s
      else if beginsDominant line.samples then countIdle 0 s
      else s
    else s

/-! ## The Frame Processor -/

/-- Whether a beacon would be applied to the Neighbour Table (R82). -/
def State.beaconAccepted (s : State) (f : Frame) : Bool :=
  decide (1 ≤ f.source) && decide (f.source ≤ 60) && !(f.source == s.ownAddress) && f.dest == 0 &&
    beaconShapeOk f.payload

/-- Whether the head frame is held (R81): by a reply that waits for a place, or, for a beacon that would be applied, by
a round in flight. -/
def State.headHeld (s : State) (f : Frame) : Bool :=
  s.cu.current.isSome || (f.kind == 1 && s.beaconAccepted f && s.su.round.isSome)

/-- Remove the head of the Receive Queue. -/
def dropHead (s : State) : State := { s with lc := { s.lc with rxQueue := s.lc.rxQueue.tail } }

/-- The head of the Receive Queue, where it is not held (R81); nothing is taken during the interval of a soft restart,
in which the queue is empty (R168). -/
def State.freeHead (s : State) : Option Frame :=
  match s.lc.rxQueue with
  | [] => none
  | f :: _ => if s.headHeld f || s.restarting then none else some f

/-- BEACON_APPLY (R82): a beacon at the head is applied to the Neighbour Table, or dropped, and removed. -/
def execBeaconApply (s : State) : Host.Outcome State Fault Refusal :=
  unlessHeld s <|
    match s.freeHead with
    | none => s
    | some f =>
      if f.kind = 1 then
        if s.beaconAccepted f then dropHead (applyBeacon f.source (beaconContent f.payload) s) else dropHead s
      else s

/-- FRAME_DROP (R84): a frame at the head that is neither a beacon nor a command is dropped. -/
def execFrameDrop (s : State) : Host.Outcome State Fault Refusal :=
  unlessHeld s <|
    match s.freeHead with
    | none => s
    | some f => if f.kind = 1 ∨ f.kind = 2 then s else dropHead s

end Sys2Proof.Machine
end

