-- ==== Sys2Proof/Machine/CommandUnit.lean ====
section
/-! DEFINITION. The Command Unit and the Stream Engine (chapter 11): COMMAND_HANDOVER and the six commands, each the
handover of that command (log entry 12), REPLY_ENQUEUE and STREAM_FRAME_BUILD. -/

namespace Sys2Proof.Machine

/-- The statuses of a reply (R169). -/
inductive Status where
  | done | busy | refused | notAllowed | badArg | unknown
  deriving DecidableEq, Repr

/-- The status codes (R181). -/
def Status.code : Status → Nat
  | .done => 0
  | .busy => 1
  | .refused => 2
  | .notAllowed => 3
  | .badArg => 4
  | .unknown => 5

/-- What an accepted or rejected command comes to: the state after its effect, the status, the data of a DONE reply,
whether a pending restart waits for the reply, and the stream that the reply begins. -/
structure Answer where
  state : State
  status : Status
  data : List Byte
  restart : Bool
  stream : Option Stream
  deriving DecidableEq, Repr

/-- A command without effect (R169). -/
def reject (status : Status) (s : State) : Answer := ⟨s, status, [], false, none⟩

/-- A command executed (R169). -/
def accept (data : List Byte) (s : State) : Answer := ⟨s, .done, data, false, none⟩

/-- The argument bytes of a command (R181). -/
def Frame.arguments (f : Frame) : List Byte := f.payload.drop 2

/-- The tag of a command (R181). -/
def Frame.tag (f : Frame) : Byte := f.payload.getD 1 0

/-- The code of a command (R181). -/
def Frame.code (f : Frame) : Nat := byteAt f.payload 0

/-- IDENTIFY (R171, R181). -/
def answerIdentify (s : State) : Answer :=
  accept
    (be16 Config.partCode ++ [byteOf Config.revision, byteOf s.ownAddress] ++ be16 s.nc.checkValue.toNat ++
      [byteOf (stateCodeOf s.nc.state), byteOf (modeCode s.lc.mode)]) s

/-- ACK_FAULTS (R151, R172): the number acknowledged, counting those removed. -/
def answerAckFaults (args : List Byte) (s : State) : Answer :=
  if args.length < 2 then reject .badArg s
  else
    let upTo := wordAt args 0
    let n := (s.fr.log.filter (Record.ackedBy upTo)).length
    accept [byteOf n] { s with fr := s.fr.acknowledge upTo }

/-- Clear the trip of one slot (R57). -/
def clearSlotTrip (s : State) (k : Slot) : State :=
  if (s.ca.slots.get k).trip = .clear then s
  else
    let s : State := { s with ca := { s.ca with slots := s.ca.slots.modify k fun r => { r with trip := .clear } } }
    let s : State :=
      { s with
        pm :=
          { s.pm with
            slots := s.pm.slots.modify k fun g =>
              { g with filter := 0, retry := 0, holdOff := .stopped, cleanRun := .stopped } } }
    clearRecord (.ofSlot .ovl k) (clearRecord (.ofSlot .ovd k) s)

/-- Clear the antenna latch (R57). -/
def clearAntenna (s : State) : State :=
  if s.pm.antLatch then
    clearRecord (.plain .ant) { s with pm := { s.pm with antLatch := false, antFilter := 0 } }
  else s

/-- Clear a target of CLEAR_TRIP (R57): 0 every slot and then the antenna, 1 to 6 one slot, 7 the antenna. -/
def clearTarget (target : Nat) (s : State) : State :=
  if target = 0 then clearAntenna (Slot.all.foldl clearSlotTrip s)
  else
    match Slot.ofNumber target with
    | some k => clearSlotTrip s k
    | none => if target = 7 then clearAntenna s else s

/-- CLEAR_TRIP (R57, R173): the target cleared, then off flags and one pass. -/
def answerClearTrip (args : List Byte) (s : State) : Answer :=
  if args.length < 1 ∨ 7 < byteAt args 0 then reject .badArg s
  else if s.configured then accept [] (pass (evaluateOff (clearTarget (byteAt args 0) s)))
  else reject .refused s

/-- RESTORE (R164, R174): from Withdrawn to Joining where no Severe record is Active. -/
def answerRestore (s : State) : Answer :=
  if s.nc.state = some .withdrawn then
    if s.fr.severeActive then reject .refused s
    else
      let t := enterJoining s
      accept [byteOf (stateCodeOf t.nc.state)] t
  else accept [byteOf (stateCodeOf s.nc.state)] s

/-- RESTART (R165, R175): a valid strap address makes a soft restart pending; the first such reply is the one it waits
for. -/
def answerRestart (s : State) : Answer :=
  if s.strapValid then
    if s.nc.restart = .none then
      { accept [] { s with nc := { s.nc with restart := .pending, restartDue := false } } with restart := true }
    else accept [] s
  else reject .refused s

/-- The number of records a table holds (R176). -/
def State.recordsIn (s : State) (table : Nat) : Nat :=
  if table = 1 then s.fr.log.length
  else if table = 2 then s.nt.length
  else if table = 3 then 6
  else if s.nc.setting.isSome then 7 else 0

/-- The number of records to follow (R176). -/
def dumpCount (present start count : Nat) : Nat :=
  if start < present then min (clampNat 1 32 count) (present - start) else 0

/-- DUMP (R176): the number of records to follow, and the stream that begins when the reply enters the queue. -/
def answerDump (f : Frame) (s : State) : Answer :=
  let args := f.arguments
  if args.length < 3 ∨ byteAt args 0 < 1 ∨ 4 < byteAt args 0 then reject .badArg s
  else if s.cu.stream.isSome then reject .busy s
  else
    let table := byteAt args 0
    let start := byteAt args 1
    let n := dumpCount (s.recordsIn table) start (byteAt args 2)
    { accept [byteOf n] s with
      stream :=
        if n = 0 then none
        else
          some
            { requester := f.source
              tag := f.tag
              table := table
              next := start
              stop := start + n
              unheard := 0
              final := false } }

/-- The reply to a command (R169, R181): its tag, its code as received, the status, and data with DONE. -/
def replyTo (f : Frame) (a : Answer) : Reply :=
  { dest := f.source
    payload := [f.tag, byteOf f.code, byteOf a.status.code] ++ a.data
    restart := a.restart
    stream := a.stream }

/-- Offer the reply (R90, R168): dropped in Listen-only, which releases the command; otherwise it waits in the Command
Unit until it enters the Transmit Queue. -/
def offerReply (f : Frame) (a : Answer) : State :=
  let s := a.state
  if s.lc.mode = .listenOnly then (if a.restart then restartReplyGone s else s)
  else { s with cu := { s.cu with current := some ⟨f, replyTo f a⟩ } }

/-- Take a command whose execution is `answer` (R168, R169 lines 1 and 2): none from source 0 or the node's own address,
NOT_ALLOWED from a source 1 to 60. -/
def takeCommand (f : Frame) (answer : State → Answer) (s : State) : State :=
  if f.source = 0 ∨ f.source = s.ownAddress then s
  else if f.source ≤ 60 then offerReply f (reject .notAllowed s)
  else offerReply f (answer s)

/-- The execution that a command's code names; UNKNOWN for a code that names none of the six (R169, R181). -/
def answerOf (f : Frame) : State → Answer :=
  if f.code = 1 then answerIdentify
  else if f.code = 2 then answerAckFaults f.arguments
  else if f.code = 3 then answerClearTrip f.arguments
  else if f.code = 4 then answerRestore
  else if f.code = 5 then answerRestart
  else if f.code = 6 then answerDump f
  else reject .unknown

/-- Whether a command frame is handed to the Command Unit: addressed to the node alone, with a code and a tag (R83). -/
def State.handsOver (s : State) (f : Frame) : Bool :=
  f.kind == 2 && !(f.dest == 0) && decide (2 ≤ f.payload.length) && f.dest == s.ownAddress

/-- COMMAND_HANDOVER (R83, R168): a command at the head is handed over and executed, or dropped by its destination or
length. -/
def execCommandHandover (s : State) : Host.Outcome State Fault Refusal :=
  unlessHeld s <|
    match s.freeHead with
    | none => s
    | some f =>
      if f.kind = 2 then
        if s.handsOver f then takeCommand f (answerOf f) (dropHead s) else dropHead s
      else s

/-- The handover of a command of one code at the head, and nothing for any other head (R168, R181, log entry 12). -/
def handOverCode (code : Nat) (answer : Frame → State → Answer) (s : State) : State :=
  match s.freeHead with
  | none => s
  | some f => if s.handsOver f ∧ f.code = code then takeCommand f (answer f) (dropHead s) else s

/-- IDENTIFY (R171). -/
def execIdentify (s : State) : Host.Outcome State Fault Refusal :=
  unlessHeld s (handOverCode 1 (fun _ => answerIdentify) s)

/-- ACK_FAULTS (R172). -/
def execAckFaults (s : State) : Host.Outcome State Fault Refusal :=
  unlessHeld s (handOverCode 2 (fun f => answerAckFaults f.arguments) s)

/-- CLEAR_TRIP (R173). -/
def execClearTrip (s : State) : Host.Outcome State Fault Refusal :=
  unlessHeld s (handOverCode 3 (fun f => answerClearTrip f.arguments) s)

/-- RESTORE (R174). -/
def execRestore (s : State) : Host.Outcome State Fault Refusal :=
  unlessHeld s (handOverCode 4 (fun _ => answerRestore) s)

/-- RESTART (R175). -/
def execRestart (s : State) : Host.Outcome State Fault Refusal :=
  unlessHeld s (handOverCode 5 (fun _ => answerRestart) s)

/-- DUMP (R176). -/
def execDump (s : State) : Host.Outcome State Fault Refusal :=
  unlessHeld s (handOverCode 6 answerDump s)

/-! ## Replies and stream frames enter the Transmit Queue -/

/-- Whether a soft restart is due or in progress, so that no reply takes a place and no stream begins (R166). -/
def State.restartTakesOver (s : State) : Bool := s.nc.restartDue || s.restarting

/-- A reply enters the Transmit Queue; its command is released and, for a DUMP with records to follow, the stream
begins (R90, R168, R176). -/
def enqueueReply (c : Current) (s : State) : State :=
  { s with
    lc :=
      { s.lc with txQueue := insertEntry (.reply c.reply.dest c.reply.payload c.reply.restart) s.lc.txQueue }
    cu := { current := none, stream := if c.reply.stream.isSome then c.reply.stream else s.cu.stream } }

/-- REPLY_ENQUEUE (R90), for a reply that waits while a shared place is free, outside Listen-only. -/
def execReplyEnqueue (s : State) : Host.Outcome State Fault Refusal :=
  unlessHeld s <|
    match s.cu.current with
    | none => s
    | some c =>
      if s.lc.answers ∧ s.lc.sharedFree ∧ s.restartTakesOver = false then enqueueReply c s else s

/-- The record of a table at a position, as it stands, or none at or past its end (R177, R181). -/
def State.streamRecord (s : State) (table position : Nat) : Option (List Byte) :=
  if table = 1 then (s.fr.log[position]?).map recordBytes
  else if table = 2 then
    (s.nt[position]?).map fun e => entryBytes e (s.relates e) (s.shares e) s.now
  else if table = 3 then
    (Slot.ofNumber (position + 1)).map fun k => slotRecordBytes k (s.ca.slots.get k) s.ca.budget
  else
    match s.nc.setting with
    | none => none
    | some g =>
      if position = 0 then some (nodeSettingBytes g)
      else (Slot.ofNumber position).map fun k => slotSettingBytes (g.slots.get k)

/-- The header of a stream payload: tag, table id and marker, position (R181). -/
def streamHeader (c : Stream) (marker : Nat) : List Byte :=
  [c.tag, byteOf (c.table * 32 + marker * 8), byteOf c.next]

/-- Whether the Transmit Queue holds a stream frame (R177). -/
def Line.hasStream (lc : Line) : Bool := lc.txQueue.any fun e => e.kind == .stream

/-- Build the next stream frame as it enters the Transmit Queue (R177). -/
def buildStreamFrame (c : Stream) (s : State) : State :=
  let (payload, final) : List Byte × Bool := match s.streamRecord c.table c.next with
    | some record =>
      let last := decide (c.next + 1 = c.stop)
      (streamHeader c (flag last 1) ++ record, last)
    | none => (streamHeader c 2, true)
  let next := if (s.streamRecord c.table c.next).isSome then c.next + 1 else c.next
  { s with
    lc := { s.lc with txQueue := insertEntry (.stream c.requester payload final) s.lc.txQueue }
    cu := { s.cu with stream := some { c with next := next, final := final } } }

/-- STREAM_FRAME_BUILD (R177), while a stream runs and has not built its last frame, the queue holds no stream frame, a
shared place is free and no reply waits for it (R90). -/
def execStreamFrameBuild (s : State) : Host.Outcome State Fault Refusal :=
  unlessHeld s <|
    match s.cu.stream with
    | none => s
    | some c =>
      if c.final = false ∧ s.lc.answers ∧ s.lc.hasStream = false ∧ s.lc.sharedFree ∧ s.cu.current = none ∧
          s.restartTakesOver = false then
        buildStreamFrame c s
      else s

end Sys2Proof.Machine
end

