-- ==== Sys2Proof/Machine/Starts.lean ====
section
/-! DEFINITION. FULL_RESET, RESET_INPUT_ASSERTED, SETTING_IMAGE_READ_END, SOFT_RESTART_BEGIN (chapter 10) and
LEVEL_FRAME_SENT (R17). -/

namespace Sys2Proof.Machine

/-- Whether six strap bits name a zone node (R158). -/
def validStrap (straps : BitVec 6) : Bool := decide (1 ≤ straps.toNat) && decide (straps.toNat ≤ 60)

/-- The level 0 frames of a full reset, in slot order (R24). -/
def zeroLevels (s : State) : State :=
  { s with ca := Slot.all.foldl (fun ca k => ca.sendLevel k 0) s.ca }

/-- Node Control starts a read of the setting image (R157). -/
def startImageRead (s : State) : State := { s with nc := { s.nc with reading := some s.now } }

/-- The path of an invalid strap address (R158): ADR, the line at 250 kbit/s in Listen-only, Unconfigured. -/
def invalidStrapPath (s : State) : State :=
  enterUnconfigured (beginLine .kbit250 .listenOnly (raiseFault (.plain .adr) none s))

/-- FULL_RESET (R156): every reset value, the level 0 frames, the straps, and the start path. The queue of waiting
commands is the model's own and stays. -/
def execFullReset (straps : BitVec 6) (s : State) : Host.Outcome State Fault Refusal :=
  let s : State := zeroLevels { State.reset with pending := s.pending }
  let s : State := { s with nc := { s.nc with strap := straps, resetHeld := false } }
  .next (if validStrap straps then startImageRead s else invalidStrapPath s)

/-- RESET_INPUT_ASSERTED (R156): the part holds its reset values. -/
def execResetInputAsserted (s : State) : Host.Outcome State Fault Refusal :=
  .next { State.reset with pending := s.pending }

/-- The temperature of the last good measurement frame with a limit, as a record's value and limit (R43); none where no
good frame has arrived (log entry 18). -/
def State.temperatureReading (s : State) (limit : Int) : Option (Int × Int) :=
  s.mi.lastFrame.map fun m => (m.temperature, limit)

/-- Measurement Intake raises THM and then THX for the conditions it still holds at the completion of a soft restart
(R43, R167). -/
def raiseThermalAgain (g : Setting) (s : State) : State :=
  let s := if 0 < s.mi.derate then raiseFault (.plain .thm) (s.temperatureReading g.tDerate) s else s
  if s.mi.mute then raiseFault (.plain .thx) (s.temperatureReading g.tCrit) s else s

/-- The restart condition is none (R167 step 2). -/
def restartOver (s : State) : State := { s with nc := { s.nc with restart := .none, restartDue := false } }

/-- The end of a read that found the image good (R156, R159, R161, R167). -/
def goodImage (g : Setting) (s : State) : State :=
  let loaded := loadImage g s
  let raised := if s.restarting then restartOver (raiseThermalAgain g loaded) else loaded
  enterJoining (beginLine g.rate .normal raised)

/-- The end of a read that found the image bad (R156, R157, R160, R167). A THM or THX record raised during the interval
of the soft restart stays as it is, since R43 and R167 clear none (log entry 33). -/
def badImage (s : State) : State :=
  let unloaded := unloadImage s
  let cool : State := { unloaded with mi := { unloaded.mi with derate := 0, mute := false } }
  let raised := raiseFault (.plain .cfg) none cool
  enterUnconfigured (beginLine .kbit250 .normal (restartOver raised))

/-- Whether the bytes that arrived make an image: 128 of them (R157). -/
def delivered (bytes : List Byte) : Option (List Byte) :=
  if Config.imageBytes ≤ bytes.length then some (bytes.take Config.imageBytes) else none

/-- SETTING_IMAGE_READ_END (R157), for a read in progress: with 128 bytes, or, with fewer, after 50 ms. -/
def execSettingImageReadEnd (bytes : List Byte) (s : State) : Host.Outcome State Fault Refusal :=
  unlessHeld s <|
    match s.nc.reading with
    | none => s
    | some began =>
      let s : State := { s with nc := { s.nc with reading := none } }
      match delivered bytes with
      | none => badImage { s.reach (began + Config.imageTimeout) with nc := { s.nc with checkValue := 0 } }
      | some image =>
        let s : State := { s with nc := { s.nc with checkValue := imageCrc image } }
        if imageGood image then goodImage (settingOf image) s else badImage s

/-- The dynamic fields of a slot at the beginning of a soft restart (R5). -/
def SlotRecord.restarted (r : SlotRecord) : SlotRecord :=
  { r with
    load := 0
    stale := true
    full := false
    bias := 0
    fill := 0
    trip := .clear
    request := 0
    grant := 0
    off := false }

/-- A level 0 frame for a slot whose last-sent level is not 0 (R24). -/
def quietLevel (ca : Allocator) (k : Slot) : Allocator :=
  if (ca.slots.get k).lastSent = 0 then ca else ca.sendLevel k 0

/-- The Carriage Allocator at the beginning of a soft restart (R24). -/
def Allocator.restarted (ca : Allocator) : Allocator :=
  let out := Slot.all.foldl quietLevel ca
  { out with slots := out.slots.map SlotRecord.restarted }

/-- The Line Controller at the beginning of a soft restart (R79, R97): rate and period are kept. -/
def Line.restarted (lc : Line) : Line := { Line.reset with rate := lc.rate, beaconPeriod := lc.beaconPeriod }

/-- The beginning of a soft restart (R166): every block takes the values its chapter gives, and the image read
starts. -/
def beginRestart (s : State) : State :=
  startImageRead
    { s with
      mi := { s.mi with sampleTimer := .stopped }
      ca := s.ca.restarted
      pm := State.reset.pm
      lc := s.lc.restarted
      nt := []
      su := State.reset.su
      fr := s.fr.clearAll s.now
      nc := { s.nc with restart := .inProgress, restartDue := false, joinTimer := .stopped }
      cu := State.reset.cu }

/-- Whether the node is sending a frame (R165). -/
def Line.sendingFrame (lc : Line) : Bool :=
  match lc.phase with
  | .quiet => false
  | .sending _ => true
  | .errored _ _ _ => false
  | .sendingBreak => false

/-- SOFT_RESTART_BEGIN (R165, R166), once the RESTART reply has left or been dropped and no frame is being sent. -/
def execSoftRestartBegin (s : State) : Host.Outcome State Fault Refusal :=
  unlessHeld s <|
    if s.nc.restart = .pending ∧ s.nc.restartDue ∧ s.lc.sendingFrame = false then beginRestart s else s

/-- LEVEL_FRAME_SENT (R17, R182): the frame being sent completes and the oldest waiting frame begins, its bits on the
port. -/
def execLevelFrameSent (s : State) : Host.Outcome State Fault Refusal :=
  unlessHeld s
    { s with ca := { s.ca.startLevel s.ca.levelQueue.head? with levelQueue := s.ca.levelQueue.tail } }

end Sys2Proof.Machine
end

