-- ==== Sys2Proof/Machine/Dispatch.lean ====
section
/-! DEFINITION. exec: one arm per command, each one direct call of its meaning. -/

namespace Sys2Proof.Machine

def exec (i : Instr) (s : State) : Host.Outcome State Fault Refusal :=
  match i with
  | .fullReset straps => Sys2Proof.Machine.execFullReset straps s
  | .settingImageReadEnd bytes => Sys2Proof.Machine.execSettingImageReadEnd bytes s
  | .measurementFrame bits => Sys2Proof.Machine.execMeasurementFrame bits s
  | .levelFrameSent => Sys2Proof.Machine.execLevelFrameSent s
  | .sampleTimerExpiry => Sys2Proof.Machine.execSampleTimerExpiry s
  | .holdOffExpiry slot => Sys2Proof.Machine.execHoldOffExpiry slot s
  | .cleanRunExpiry slot => Sys2Proof.Machine.execCleanRunExpiry slot s
  | .roundTimerExpiry => Sys2Proof.Machine.execRoundTimerExpiry s
  | .roundCommit => Sys2Proof.Machine.execRoundCommit s
  | .joinTimerExpiry => Sys2Proof.Machine.execJoinTimerExpiry s
  | .staleDeadline address => Sys2Proof.Machine.execStaleDeadline address s
  | .silentDeadline address => Sys2Proof.Machine.execSilentDeadline address s
  | .goneDeadline address => Sys2Proof.Machine.execGoneDeadline address s
  | .beaconTimerExpiry => Sys2Proof.Machine.execBeaconTimerExpiry s
  | .coolDownExpiry => Sys2Proof.Machine.execCoolDownExpiry s
  | .peerFrameReceived line othersHold => Sys2Proof.Machine.execPeerFrameReceived line othersHold s
  | .transmissionStart recessive => Sys2Proof.Machine.execTransmissionStart recessive s
  | .arbitrationLost position readBack => Sys2Proof.Machine.execArbitrationLost position readBack s
  | .bitError position readBack ack hold => Sys2Proof.Machine.execBitError position readBack ack hold s
  | .transmitFrameEnd ack hold => Sys2Proof.Machine.execTransmitFrameEnd ack hold s
  | .bitErrorSettle recessive => Sys2Proof.Machine.execBitErrorSettle recessive s
  | .breakDetected => Sys2Proof.Machine.execBreakDetected s
  | .breakEnd => Sys2Proof.Machine.execBreakEnd s
  | .beaconApply => Sys2Proof.Machine.execBeaconApply s
  | .commandHandover => Sys2Proof.Machine.execCommandHandover s
  | .frameDrop => Sys2Proof.Machine.execFrameDrop s
  | .identify => Sys2Proof.Machine.execIdentify s
  | .ackFaults => Sys2Proof.Machine.execAckFaults s
  | .clearTrip => Sys2Proof.Machine.execClearTrip s
  | .restore => Sys2Proof.Machine.execRestore s
  | .restart => Sys2Proof.Machine.execRestart s
  | .dump => Sys2Proof.Machine.execDump s
  | .replyEnqueue => Sys2Proof.Machine.execReplyEnqueue s
  | .streamFrameBuild => Sys2Proof.Machine.execStreamFrameBuild s
  | .softRestartBegin => Sys2Proof.Machine.execSoftRestartBegin s
  | .resetInputAsserted => Sys2Proof.Machine.execResetInputAsserted s

end Sys2Proof.Machine
end

