-- ==== Sys2Proof/Safety.lean ====
section
/-! DEFINITION. What counts as a safe state: the laws of the device that the manual states (R3, R6, R15, R17, R44, R71,
R88, R98, R120, R141, R144, R148, R163) and the relations between the blocks' states that the meanings rely on. -/

namespace Sys2Proof.Machine

/-- The reset input is released, so the part acts (R156). -/
def State.acts (s : State) : Prop := s.nc.resetHeld = false

/-- The fault line is pulled low exactly while an Active Severe record or an Active unmasked Warning record is in the
log (R95, R148). -/
def FaultLineLaw (s : State) : Prop :=
  s.fr.faultLine = true ↔
    ∃ r ∈ s.fr.log, r.active = true ∧
      (r.key.kind.faultClass = .severe ∨
        (r.key.kind.faultClass = .warning ∧ s.fr.mask.getLsbD r.key.kind.position = false))

/-- A record as R141, R142 and R146 allow it: slot and neighbour address where the kind takes them, the address 1 to
60, value and limit where the kind carries them, a cleared time exactly while Cleared, a Cleared record
unacknowledged, a repeat count 1 to 255, a 16-bit sequence number. -/
def Record.sound (r : Record) : Prop :=
  (r.key.slot.isSome = true ↔ r.key.kind = .ovd ∨ r.key.kind = .ovl) ∧
  (r.key.neighbour.isSome = true ↔ r.key.kind = .nbl) ∧ (∀ a ∈ r.key.neighbour, 1 ≤ a ∧ a ≤ 60) ∧
  (r.reading.isSome = true ↔ r.key.kind ∈ [.ant, .ovd, .ovl, .thx, .thm]) ∧
  (r.cleared.isNone = r.active) ∧ (r.acked = true → r.active = true) ∧
  1 ≤ r.repeats ∧ r.repeats ≤ 255 ∧ r.seq < 65536

/-- The Fault Log holds at most 32 records, at most one for each key (R141), each of them sound (R142); and a node
derated or muted has a last good frame, whose temperature a THM or THX raised again carries (R38, R41, R43). -/
def FaultLogLaw (s : State) : Prop :=
  s.fr.log.length ≤ 32 ∧ (s.fr.log.map Record.key).Nodup ∧ (∀ r ∈ s.fr.log, r.sound) ∧ s.fr.nextSeq < 65536 ∧
    (0 < s.mi.derate ∨ s.mi.mute = true → s.mi.lastFrame.isSome = true)

/-- The requests and grants as a pass leaves them (R6, R9, R15, R16): a participating slot requests what its trim calls
for and any other requests 0; every grant is at most its request and is the last-sent level; the grants together stay
within the budget in force. -/
def State.allotted (s : State) : Prop :=
  (∀ k, (s.ca.slots.get k).request = if s.participates k then (s.ca.slots.get k).wanted else 0) ∧
  (∀ k, (s.ca.slots.get k).grant ≤ (s.ca.slots.get k).request) ∧
  (∀ k, (s.ca.slots.get k).lastSent = (s.ca.slots.get k).grant) ∧
  (s.ca.slots.map SlotRecord.grant).sum ≤ s.ca.budget

/-- The off flags as R7 gives them. -/
def State.offFlagsStand (s : State) : Prop := ∀ k, (s.ca.slots.get k).off = s.offNow k

/-- Power (R6, R7, R9, R10, R15, R16): requests, grants and off flags as the latest pass leaves them, and the budget in
force the derated composite budget. -/
def PowerLaw (s : State) : Prop :=
  s.allotted ∧ s.offFlagsStand ∧ s.ca.budget = s.bCfg * (16 - s.mi.derate) / 16

/-- The level frames of a slot on their way to the front end, in the order they leave (R17). -/
def Allocator.framesFor (ca : Allocator) (k : Slot) : List LevelFrame :=
  (ca.levelSending.toList ++ ca.levelQueue).filter fun f => f.slot == k

/-- The bits of a level frame on the port (R182): slot number, level, CRC-8, each byte high bit first. -/
def levelBitsOf (f : LevelFrame) : List Bool :=
  let body := [byteOf f.slot.number, byteOf (f.level / 256), byteOf f.level]
  bitsOfBytes (body ++ [crc8 body])

/-- The level port (R17, R182): at most one waiting frame for each slot, none waiting while the port is idle (log
entry 5), the bits on the port those of the frame being sent, and the last frame on its way for a slot carries the
slot's last-sent level. -/
def LevelPortLaw (s : State) : Prop :=
  (s.ca.levelQueue.map LevelFrame.slot).Nodup ∧
  (s.ca.levelSending = none → s.ca.levelQueue = []) ∧
  s.ca.levelBits = (s.ca.levelSending.map levelBitsOf).getD [] ∧
  (∀ k f, (s.ca.framesFor k).getLast? = some f → f.level = (s.ca.slots.get k).lastSent)

/-- A bias and a fill within the ranges of R8 and within the bias_max and fill_max of the image held, not both above 0
(R120). -/
def trimsAllowed (held : Option Setting) (bias fill : Nat) : Prop :=
  (bias = 0 ∨ fill = 0) ∧ bias ≤ 12 ∧ fill ≤ 6 ∧ ∀ g ∈ held, bias ≤ g.biasMax ∧ fill ≤ g.fillMax

/-- Trims (R8, R114, R120): those of every slot, those a round in flight has decided, and the bounds of the setting. -/
def TrimLaw (s : State) : Prop :=
  (∀ k, trimsAllowed s.nc.setting (s.ca.slots.get k).bias (s.ca.slots.get k).fill) ∧
  (∀ r ∈ s.su.round, ∀ k, ∀ d ∈ r.decided.get k, trimsAllowed s.nc.setting d.bias d.fill) ∧
  (∀ g ∈ s.nc.setting, g.biasMax ≤ 12 ∧ g.fillMax ≤ 6)

/-- The image-derived fields of the slots and the mask are those of the image held, or the values of R4 while none is
(R2, R3, R4, R147), clamped so that F ≤ N ≤ M ≤ 10000. -/
def SettingLaw (s : State) : Prop :=
  match s.nc.setting with
  | none => (∀ k, s.ca.slots.get k = (s.ca.slots.get k).unloaded) ∧ s.fr.mask = 0
  | some g =>
    (∀ k, s.ca.slots.get k = (s.ca.slots.get k).loaded g.slots k) ∧ s.fr.mask = g.mask ∧
      (∀ k, (g.slots.get k).floor ≤ (g.slots.get k).nominal ∧ (g.slots.get k).nominal ≤ (g.slots.get k).maximum ∧
        (g.slots.get k).maximum ≤ 10000 ∧ 16 ≤ (g.slots.get k).riseFull)

/-- The line's queues and counts (R70, R72, R74, R75, R86, R88): their bounds, and the Transmit Queue in order of
priority. -/
def QueueLaw (s : State) : Prop :=
  s.lc.rxQueue.length ≤ 4 ∧
  s.lc.txQueue.Pairwise (fun a b => a.priority ≤ b.priority) ∧
  (s.lc.txQueue.filter (fun e => e.kind == .beacon)).length ≤ 1 ∧
  (s.lc.txQueue.filter (fun e => e.kind == .stream)).length ≤ 1 ∧
  (s.lc.txQueue.filter (fun e => !(e.kind == .beacon))).length ≤ 3 ∧
  s.lc.window.length ≤ 16 ∧ s.lc.txErrors ≤ 8 ∧ s.lc.unheard ≤ 3 ∧
  30 ≤ s.lc.coolLength ∧ s.lc.coolLength ≤ 240

/-- A neighbour entry within the ranges of R99. -/
def Entry.sound (own : Nat) (e : Entry) : Prop :=
  1 ≤ e.address ∧ e.address ≤ 60 ∧ e.address ≠ own ∧ 1 ≤ e.period ∧ e.period ≤ 16 ∧ e.slots.length ≤ 6 ∧
  (e.slots.map NbSlot.operator).Nodup ∧
  ∀ n ∈ e.slots, 1 ≤ n.operator ∧ n.operator ≤ 15 ∧ n.sector ≤ 255 ∧ n.load ≤ 1000 ∧ n.bias ≤ 12 ∧ n.fill ≤ 6

/-- The Neighbour Table holds at most 16 entries with pairwise distinct addresses in 1 to 60, none the node's own
(R98), each within its ranges (R99). -/
def NeighbourLaw (s : State) : Prop :=
  s.nt.length ≤ 16 ∧ (s.nt.map Entry.address).Nodup ∧ ∀ e ∈ s.nt, e.sound s.nc.strap.toNat

/-- How the blocks follow the node state (R115, R119, R155, R157, R161, R163, R165, R79): the join timer runs only in
Joining, the round timer and a round only in Serving, neither during a soft restart; an image read only before the
first state or during a soft restart; an image is held exactly in a configured state; the line is used exactly in a
state outside a soft restart; a restart is due only while pending. -/
def ControlLaw (s : State) : Prop :=
  (s.nc.joinTimer ≠ .stopped → s.nc.state = some .joining ∧ s.nc.restart ≠ .inProgress) ∧
  (s.su.round.isSome = true ∨ s.su.roundTimer ≠ .stopped → s.nc.state = some .serving ∧ s.nc.restart ≠ .inProgress) ∧
  (s.nc.reading.isSome = true → s.nc.state = none ∨ s.nc.restart = .inProgress) ∧
  (s.nc.setting.isSome = s.configured) ∧
  (s.lc.inUse = (s.nc.state.isSome && !s.restarting)) ∧
  (s.nc.restartDue = true → s.nc.restart = .pending)

/-- In Listen-only nothing is sent (R71): no reply or stream frame is queued or waits, no break is pending, no stream
runs, and the node drives neither a frame nor a break, nor the acknowledge or hold bit of a frame received. -/
def ListenOnlyLaw (s : State) : Prop :=
  s.lc.mode = .listenOnly →
    (∀ e ∈ s.lc.txQueue, e.kind = .beacon) ∧ s.lc.pendingBreak = false ∧ s.cu.current = none ∧
      s.cu.stream = none ∧ s.lc.driving = false ∧ s.lc.ackDriven = false ∧ s.lc.holdDriven = false

/-- The Protection Monitor runs no test (R58): before a state is entered, in Unconfigured, and while a soft restart is
in progress. -/
def State.untested (s : State) : Prop := s.configured = false ∨ s.nc.restart = .inProgress

/-- The Protection Monitor's state (R44, R49, R51 to R53, R56, R58): the hold-off timer runs exactly while Tripped, the
clean-run timer exactly while a participating slot has a retry count above 0; a slot off Clear and a latched antenna
count nothing; filter counts stay below the trip filter, retry counts within max retries, below it while Tripped; and
where no test runs everything is clear. -/
def ProtectionLaw (s : State) : Prop :=
  (∀ k, ((s.pm.slots.get k).holdOff ≠ .stopped ↔ (s.ca.slots.get k).trip = .tripped) ∧
    ((s.pm.slots.get k).cleanRun ≠ .stopped ↔ 0 < (s.pm.slots.get k).retry ∧ s.participates k = true) ∧
    ((s.ca.slots.get k).trip ≠ .clear → (s.pm.slots.get k).filter = 0)) ∧
  (s.pm.antLatch = true → s.pm.antFilter = 0) ∧
  (∀ g ∈ s.nc.setting, 1 ≤ g.tripFilter ∧ g.maxRetries ≤ 7 ∧ s.pm.antFilter < g.tripFilter ∧
    ∀ k, (s.pm.slots.get k).filter < g.tripFilter ∧ (s.pm.slots.get k).retry ≤ g.maxRetries ∧
      ((s.ca.slots.get k).trip = .tripped → (s.pm.slots.get k).retry < g.maxRetries)) ∧
  (s.untested → s.pm.antFilter = 0 ∧ s.pm.antLatch = false ∧
    ∀ k, (s.ca.slots.get k).trip = .clear ∧ (s.pm.slots.get k).filter = 0 ∧ (s.pm.slots.get k).retry = 0)

/-- What an Active record says of the node, from which R144 counts: OVD of a Tripped slot, OVL of a Latched one, NBL of
a Silent entry, ANT of a latched antenna, FLR of a configured node, CFG and ADR of an Unconfigured one; RXO is never
left Active (R87). -/
def ActiveLaw (s : State) : Prop :=
  ∀ r ∈ s.fr.log, r.active = true →
    r.key.kind ≠ .rxo ∧
    (r.key.kind = .ovd → ∀ k ∈ r.key.slot, (s.ca.slots.get k).trip = .tripped) ∧
    (r.key.kind = .ovl → ∀ k ∈ r.key.slot, (s.ca.slots.get k).trip = .latched) ∧
    (∀ a ∈ r.key.neighbour, ∃ e ∈ s.nt, e.address = a ∧ e.age = .silent) ∧
    (r.key.kind = .ant → s.pm.antLatch = true) ∧ (r.key.kind = .flr → ¬ s.untested) ∧
    (r.key.kind = .cfg ∨ r.key.kind = .adr → s.nc.state = some .unconfigured ∧ s.nc.restart ≠ .inProgress)

/-- All the laws together. -/
def Safe (s : State) : Prop :=
  FaultLineLaw s ∧ FaultLogLaw s ∧ PowerLaw s ∧ LevelPortLaw s ∧ TrimLaw s ∧ SettingLaw s ∧ QueueLaw s ∧
    NeighbourLaw s ∧ ControlLaw s ∧ ListenOnlyLaw s ∧ ProtectionLaw s ∧ ActiveLaw s

/-- The moment at which a deadline falls: never before `due` (log entry 2). -/
def State.moment (s : State) (due : Nat) : Nat := max s.now due

/-- A command of one code from a monitor station waits at the head of the Receive Queue, addressed to the node, and the
Command Unit is ready (R83, R168, R181). -/
def State.commandAtHead (s : State) (f : Frame) (rest : List Frame) (code : Nat) : Prop :=
  s.acts ∧ s.lc.rxQueue = f :: rest ∧ f.kind = 2 ∧ f.dest = s.nc.strap.toNat ∧ f.dest ≠ 0 ∧
  2 ≤ f.payload.length ∧ byteAt f.payload 0 = code ∧ 61 ≤ f.source ∧ f.source ≠ s.nc.strap.toNat ∧
  s.cu.current = none ∧ s.nc.restart ≠ .inProgress

/-- The reply that waits in the Command Unit after a command's execution (R169, R181); in Listen-only it is dropped
(R90). -/
def replyWaiting (mode : LineMode) (f : Frame) (status : Nat) (data : List Byte) (restart : Bool)
    (stream : Option Stream) : Option Current :=
  if mode = .listenOnly then none
  else
    some
      { command := f
        reply :=
          { dest := f.source
            payload := [f.payload.getD 1 0, byteOf (byteAt f.payload 0), byteOf status] ++ data
            restart := restart
            stream := stream } }

/-- The node receives: it uses the line, drives nothing of its own and no break stands on the line (R64, R77, R79), and
it is not in the rest of a frame in which it met a bit error (R69). -/
def State.receives (s : State) : Prop :=
  s.acts ∧ s.lc.inUse = true ∧ s.lc.driving = false ∧ s.lc.breakRun = false ∧ s.lc.inOwnErroredFrame = false

/-- The node decodes what others send: it uses the line, drives nothing of its own and no break stands on the line; it
may be in the rest of a frame in which it met a bit error (R64, R69, R77, R79). -/
def State.hears (s : State) : Prop :=
  s.acts ∧ s.lc.inUse = true ∧ s.lc.driving = false ∧ s.lc.breakRun = false

/-- A frame is addressed to the node (R64, R86). -/
def State.isFor (s : State) (f : Frame) : Prop := f.dest = 0 ∨ f.dest = s.nc.strap.toNat

/-- The Receive Queue after a frame is offered (R86, R87). -/
def queueWith (q : List Frame) (f : Frame) : List Frame := if q.length < 4 then q ++ [f] else q

/-- A slot's test condition and the count that trips it, on a good frame (R48, R49). -/
def State.overDriven (s : State) (g : Setting) (m : MeasFrame) (k : Slot) : Prop :=
  s.slotTested k = true ∧ (s.ca.slots.get k).grant * g.overLimit < m.forward.get k * 16 ∧
    g.tripFilter ≤ (s.pm.slots.get k).filter + 1

/-- The frame that an entry sends: kind, destination and priority as R80 gives, the node's own address as source. -/
def State.frameSent (s : State) : TxEntry → Frame
  | .marker urgent => ⟨if urgent then 0 else 3, s.nc.strap.toNat, 1, 0, s.beaconPayload⟩
  | .reply dest payload _ => ⟨1, s.nc.strap.toNat, 3, dest, payload⟩
  | .stream dest payload _ => ⟨2, s.nc.strap.toNat, 4, dest, payload⟩

/-- The node state's byte in the IDENTIFY and RESTORE replies (R180). -/
def NodeState.shown : NodeState → Byte
  | .unconfigured => 0
  | .joining => 1
  | .serving => 2
  | .withdrawn => 3

/-- The line mode's byte in the IDENTIFY reply (R180). -/
def LineMode.shown : LineMode → Byte
  | .normal => 0
  | .listenOnly => 1
  | .probing => 2

/-- A sample timer that entry to Joining starts unless it is running (R35, R161). -/
def SampleTimer.orStarted (due : Nat) : SampleTimer → SampleTimer
  | .running standing => .running standing
  | .stopped => .running due
  | .expired => .running due

/-! ## What a reader finds in a streamed record (R180, R181) -/

/-- The fifteen kinds in the order of their summary positions (R180). -/
def kindsInOrder : List Kind :=
  [.ant, .thx, .ovl, .dup, .cfg, .adr, .ovd, .thm, .flr, .smp, .lnq, .iso, .txf, .nbl, .rxo]

/-- The class codes of R180. -/
def FaultClass.shown : FaultClass → Nat
  | .severe => 0
  | .warning => 1
  | .info => 2

/-- The ageing state codes of R180. -/
def AgeState.shown : AgeState → Nat
  | .present => 0
  | .stale => 1
  | .silent => 2

/-- The trip state codes of R180. -/
def TripState.shown : TripState → Nat
  | .clear => 0
  | .tripped => 1
  | .latched => 2

/-- The rate codes of R183. -/
def BitRate.shown : BitRate → Nat
  | .kbit125 => 0
  | .kbit250 => 1
  | .kbit500 => 2

/-- The four bytes of a slot entry from a byte on (R180). -/
def slotShown (n : NbSlot) (b : List Byte) (i : Nat) : Prop :=
  byteAt b i / 16 = n.operator ∧ byteAt b i % 16 = n.bias ∧ byteAt b (i + 1) = n.sector ∧
  wordAt b (i + 2) / 64 = n.load ∧ wordAt b (i + 2) / 8 % 8 = n.fill ∧ (wordAt b (i + 2)).testBit 2 = n.full ∧
  (wordAt b (i + 2)).testBit 1 = n.stale ∧ (wordAt b (i + 2)).testBit 0 = n.off

/-- A fault record of table 1 (R181); a time shows its last 32 bits (log entry 31). -/
def recordShown (r : Record) (b : List Byte) : Prop :=
  b.length = 19 ∧ wordAt b 0 = r.seq ∧ kindsInOrder[byteAt b 2]? = some r.key.kind ∧
  byteAt b 3 / 64 = r.key.kind.faultClass.shown ∧ (byteAt b 3).testBit 5 = r.active ∧
  (byteAt b 3).testBit 4 = r.acked ∧ (byteAt b 3).testBit 3 = r.reading.isSome ∧
  (byteAt b 3).testBit 2 = r.cleared.isSome ∧ byteAt b 3 % 4 = 0 ∧
  byteAt b 4 = (r.key.slot.map Slot.number).getD 0 ∧ byteAt b 5 = r.key.neighbour.getD 0 ∧
  (∀ x ∈ r.reading, (wordAt b 6 : Int) = x.1 % 65536 ∧ (wordAt b 8 : Int) = x.2 % 65536) ∧
  (r.reading = none → wordAt b 6 = 0 ∧ wordAt b 8 = 0) ∧
  wordAt b 10 * 65536 + wordAt b 12 = r.raised % 4294967296 ∧
  wordAt b 14 * 65536 + wordAt b 16 = r.cleared.getD 0 % 4294967296 ∧ byteAt b 18 = r.repeats

/-- A neighbour record of table 2 (R181), with the two tests of R100 and the seconds since last heard as they stand. -/
def entryShown (s : State) (e : Entry) (b : List Byte) : Prop :=
  b.length = 5 + 4 * e.slots.length ∧ byteAt b 0 / 4 = e.address ∧ byteAt b 0 % 4 = e.age.shown ∧
  byteAt b 1 / 64 = e.reported.shown.toNat ∧
  ((byteAt b 1).testBit 5 = true ↔ ∃ k, (s.ca.slots.get k).enabled = true ∧ ∃ n ∈ e.slots,
    n.operator = (s.ca.slots.get k).operator ∧ n.sector = (s.ca.slots.get k).sector) ∧
  ((byteAt b 1).testBit 4 = true ↔ ∃ k, (s.ca.slots.get k).enabled = true ∧ ∃ n ∈ e.slots,
    n.operator = (s.ca.slots.get k).operator) ∧
  byteAt b 1 % 16 + 1 = e.period ∧ wordAt b 2 = e.summary.toNat ∧ byteAt b 4 = min 255 ((s.now - e.heard) / 1000) ∧
  ∀ i n, e.slots[i]? = some n → slotShown n b (5 + 4 * i)

/-- The numbers of a slot record within the widths of R1. -/
def SlotRecord.fits (r : SlotRecord) : Prop :=
  r.operator ≤ 15 ∧ r.sector ≤ 255 ∧ r.nominal < 65536 ∧ r.floor < 65536 ∧ r.maximum < 65536 ∧ r.riseFull ≤ 255 ∧
  r.load ≤ 1000 ∧ r.bias ≤ 12 ∧ r.fill ≤ 6 ∧ r.request < 65536 ∧ r.grant < 65536 ∧ r.lastSent < 65536

/-- A slot record of table 3 (R181). -/
def slotRecordShown (k : Slot) (r : SlotRecord) (budget : Nat) (b : List Byte) : Prop :=
  b.length = 20 ∧ byteAt b 0 / 32 = k.number ∧ (byteAt b 0).testBit 4 = r.enabled ∧ byteAt b 0 % 16 = r.operator ∧
  byteAt b 1 = r.sector ∧ wordAt b 2 = r.nominal ∧ wordAt b 4 = r.floor ∧ wordAt b 6 = r.maximum ∧
  byteAt b 8 = r.riseFull ∧ wordAt b 9 / 64 = r.load ∧ (wordAt b 9).testBit 5 = r.stale ∧
  (wordAt b 9).testBit 4 = r.full ∧ (wordAt b 9).testBit 3 = r.off ∧ wordAt b 9 / 2 % 4 = r.trip.shown ∧
  wordAt b 9 % 2 = 0 ∧ byteAt b 11 / 16 = r.bias ∧ byteAt b 11 % 16 = r.fill ∧ wordAt b 12 = r.request ∧
  wordAt b 14 = r.grant ∧ wordAt b 16 = r.lastSent ∧ wordAt b 18 = budget

/-- The node-wide values of a setting within their widths (R183). -/
def Setting.fits (g : Setting) : Prop :=
  g.bCfg < 65536 ∧ g.weight ≤ 255 ∧ g.shift ≤ 255 ∧ g.lFull < 65536 ∧ g.tSample ≤ 255 ∧
  (-128 ≤ g.tDerate ∧ g.tDerate ≤ 127) ∧ (-128 ≤ g.tCrit ∧ g.tCrit ≤ 127) ∧ g.overLimit ≤ 255 ∧
  g.returnLimit ≤ 255 ∧ g.tripFilter ≤ 255 ∧ g.maxRetries ≤ 255 ∧ g.holdOff ≤ 255 ∧ g.beaconPeriod ≤ 255 ∧
  g.tRound ≤ 255 ∧ g.biasMax ≤ 255 ∧ g.fillMax ≤ 255 ∧ g.hUp < 65536 ∧ g.hDown < 65536 ∧ g.lAct < 65536 ∧
  g.joinCount ≤ 255 ∧
  ∀ k, (g.slots.get k).operator ≤ 15 ∧ (g.slots.get k).sector ≤ 255 ∧ (g.slots.get k).nominal < 65536 ∧
    (g.slots.get k).floor < 65536 ∧ (g.slots.get k).maximum < 65536 ∧ (g.slots.get k).riseFull ≤ 255

/-- Position 0 of table 4: image bytes 3 to 30 as loaded (R181, R183). -/
def settingShown (g : Setting) (b : List Byte) : Prop :=
  b.length = 28 ∧ wordAt b 0 = g.bCfg ∧ byteAt b 2 = g.weight ∧ byteAt b 3 = g.shift ∧ wordAt b 4 = g.lFull ∧
  byteAt b 6 = g.tSample ∧ signedAt b 7 = g.tDerate ∧ signedAt b 8 = g.tCrit ∧ byteAt b 9 = g.overLimit ∧
  byteAt b 10 = g.returnLimit ∧ byteAt b 11 = g.tripFilter ∧ byteAt b 12 = g.maxRetries ∧ byteAt b 13 = g.holdOff ∧
  byteAt b 14 = g.rate.shown ∧ byteAt b 15 = g.beaconPeriod ∧ byteAt b 16 = g.tRound ∧ byteAt b 17 = g.biasMax ∧
  byteAt b 18 = g.fillMax ∧ wordAt b 19 = g.hUp ∧ wordAt b 21 = g.hDown ∧ wordAt b 23 = g.lAct ∧
  byteAt b 25 = g.joinCount ∧ wordAt b 26 = g.mask.toNat

/-- Positions 1 to 6 of table 4: a slot entry of the image as loaded (R181, R183). -/
def slotSettingShown (e : SlotSetting) (b : List Byte) : Prop :=
  b.length = 9 ∧ byteAt b 0 = e.operator ∧ byteAt b 1 = e.sector ∧ wordAt b 2 = e.nominal ∧ wordAt b 4 = e.floor ∧
  wordAt b 6 = e.maximum ∧ byteAt b 8 = e.riseFull

/-- A frame whose fields fit their places in R64. -/
def Frame.fits (f : Frame) : Prop :=
  f.priority < 4 ∧ f.source < 64 ∧ f.kind < 16 ∧ f.dest < 64 ∧ f.payload.length ≤ 32

end Sys2Proof.Machine
end

