-- ==== Sys2Proof/Certificates/Slice0/Obligations.lean ====
section
/-! DEFINITION. The statements for the provers: the step, the laws of the device kept by every step, the encodings, and
for each command the next state that its rule gives, with its frame. -/

open Sys2Proof Sys2Proof.Machine

/-! ## The step -/

/-- A step runs the command at the front of the queue on the state with the queue's rest. On an empty queue one
millisecond passes, and none while the reset input is held: that is the model's choice (log entry 2). -/
def Obligations.StepRunsFrontCommand : Prop :=
  (∀ (c : Instr) (rest : List Instr) (s : State),
    step { s with pending := c :: rest } = exec c { s with pending := rest }) ∧
  (∀ s : State, s.acts → s.pending = [] → step s = .next { s with now := s.now + 1 }) ∧
  (∀ s : State, ¬ s.acts → s.pending = [] → step s = .next s)

/-- Every command is answered with a next state and leaves the queue of those that wait as it was;
RESET_INPUT_ASSERTED puts the part at its reset values (R156), among which the strap address 0, where R155 keeps the
strap until the next full reset, is log entry 20 and the level frame cut off is log entry 1; and while the reset input
is held no command but FULL_RESET and RESET_INPUT_ASSERTED changes anything (log entry 1). -/
def Obligations.EveryCommandIsAnswered : Prop :=
  (∀ (c : Instr) (s : State), ∃ t, exec c s = .next t ∧ t.pending = s.pending) ∧
  (∀ s : State, exec .resetInputAsserted s = .next { State.reset with pending := s.pending }) ∧
  (∀ (c : Instr) (s : State), ¬ s.acts → (∀ straps, c ≠ .fullReset straps) → c ≠ .resetInputAsserted →
    exec c s = .next s)

/-! ## The laws of the device, kept by every step -/

/-- The state after reset meets every law. -/
def Obligations.ResetStateIsSafe : Prop := Safe State.reset

/-- Every step keeps: the fault line is pulled low exactly while an unmasked Active Severe or Warning record stands. -/
def Obligations.FaultLineLawKept : Prop :=
  ∀ s t : State, FaultLineLaw s → step s = .next t → FaultLineLaw t

/-- Every step keeps: at most 32 records, at most one for each key, each within the ranges of R142: the neighbour
address of an NBL record 1 to 60, value and limit present for ANT, OVD, OVL, THX and THM only. The addresses come from
the Neighbour Table, whose law is a premise. Every step keeps also what an Active record says of the node, from which
R144 counts, and where that stands at most 31 records are Active at once (R144). -/
def Obligations.FaultLogLawKept : Prop :=
  (∀ s t : State, FaultLogLaw s → NeighbourLaw s → step s = .next t → FaultLogLaw t) ∧
  (∀ s t : State, ActiveLaw s → FaultLogLaw s → NeighbourLaw s → ControlLaw s → ProtectionLaw s →
    step s = .next t → ActiveLaw t) ∧
  (∀ s : State, ActiveLaw s → FaultLogLaw s → NeighbourLaw s → ProtectionLaw s →
    (s.fr.log.filter Record.active).length ≤ 31)

/-- Every step keeps: grants within requests, requests as the trims call for, the sum of grants within the budget in
force, every grant sent, the off flags as R7 gives. -/
def Obligations.PowerLawKept : Prop :=
  ∀ s t : State, PowerLaw s → step s = .next t → PowerLaw t

/-- Every step keeps: at most one waiting level frame for each slot, on the port the bits of the frame being sent
(R182), and the last frame on its way for a slot carries the slot's last-sent level. That nothing waits while the port
is idle, since an idle port begins a frame at once, is the model's choice (log entry 5). -/
def Obligations.LevelPortLawKept : Prop :=
  ∀ s t : State, LevelPortLaw s → step s = .next t → LevelPortLaw t

/-- Every step keeps: bias and fill of every slot within 12 and 6 and within the bias_max and fill_max of the image
held, never both above 0. That no round is in flight when an image is loaded is in ControlLaw, a premise. -/
def Obligations.TrimLawKept : Prop :=
  ∀ s t : State, TrimLaw s → ControlLaw s → step s = .next t → TrimLaw t

/-- Every step keeps: the slots' image fields and the fault mask are those of the image held, or R4's while none is. -/
def Obligations.SettingLawKept : Prop :=
  ∀ s t : State, SettingLaw s → step s = .next t → SettingLaw t

/-- Every step keeps: the bounds of the Receive Queue, the Transmit Queue, the window and the counts, and the order of
the Transmit Queue. -/
def Obligations.QueueLawKept : Prop :=
  ∀ s t : State, QueueLaw s → step s = .next t → QueueLaw t

/-- Every step keeps: at most 16 neighbour entries with distinct addresses in 1 to 60, none the node's own. -/
def Obligations.NeighbourLawKept : Prop :=
  ∀ s t : State, NeighbourLaw s → step s = .next t → NeighbourLaw t

/-- Every step keeps the relations between the node state and the timers, the round, the image read and the line; and
those of the Protection Monitor's state: the hold-off timer runs exactly while Tripped, the clean-run timer exactly
while a participating slot has a retry count above 0, filter and retry counts stay within their bounds, and where no
test runs everything is clear (R44, R49, R51 to R53, R58). -/
def Obligations.ControlLawKept : Prop :=
  (∀ s t : State, ControlLaw s → step s = .next t → ControlLaw t) ∧
  (∀ s t : State, ProtectionLaw s → ControlLaw s → step s = .next t → ProtectionLaw t)

/-- Every step keeps: in Listen-only the node drives neither a frame nor a break of its own, nor the acknowledge or hold
bit of a frame received, and has nothing but the beacon marker to send. -/
def Obligations.ListenOnlyLawKept : Prop :=
  ∀ s t : State, ListenOnlyLaw s → step s = .next t → ListenOnlyLaw t

/-! ## Encodings -/

/-- A frame sent bit by bit, stuffed and checked, is decoded by a receiver as the frame that was sent, whatever follows
it on the line. It is marked noisy exactly where a bit from the start bit through the last check bit is noisy; noise
after that marks nothing (R61). -/
def Obligations.SentFrameIsReceivedWhole : Prop :=
  ∀ (f : Frame) (line : List Sample), f.fits →
    (wireBits f).map WireBit.bit <+: line.map Sample.majority →
    let throughCheck := ((wireBits f).reverse.dropWhile fun w => w.role != .body).length
    decodeFrame line = .good f ((line.take throughCheck).any Sample.noisy)

/-- A beacon's payload has the length its slot count calls for, and a receiver reads from it the node state, period,
fault summary and slot entries of the sender, and bit 5 of byte 0 is the log-saturated flag. The fault summary shows,
position by position, the unmasked kinds with an Active record, the mask without effect on a Severe kind, and the
sixteenth position clear (R95, R148). The slot entries are one for each enabled slot, in slot order, with the fields as
they stand (R25, R96). -/
def Obligations.BeaconPayloadIsReadBack : Prop :=
  (∀ (s : State) (n : NodeState) (p : Nat), s.nc.state = some n → s.lc.beaconPeriod = some p → 1 ≤ p → p ≤ 16 →
    (∀ e ∈ s.beaconSlots, 1 ≤ e.operator ∧ e.operator ≤ 15 ∧ e.sector ≤ 255 ∧ e.load ≤ 1000 ∧ e.bias ≤ 12 ∧
      e.fill ≤ 6) →
    (s.beaconSlots.map NbSlot.operator).Nodup →
    beaconShapeOk s.beaconPayload = true ∧
    s.beaconPayload.length = 4 + 4 * s.beaconSlots.length ∧
    beaconContent s.beaconPayload = ⟨n, p, s.fr.summary, s.beaconSlots⟩ ∧
    (byteAt s.beaconPayload 0).testBit 5 = s.fr.saturated) ∧
  (∀ fr : Recorder,
    (∀ k : Kind, fr.summary.getLsbD k.position = true ↔
      (∃ r ∈ fr.log, r.active = true ∧ r.key.kind = k) ∧
        (k.faultClass = .severe ∨ fr.mask.getLsbD k.position = false)) ∧
    fr.summary.getLsbD 15 = false) ∧
  (∀ s : State,
    s.beaconSlots = (Slot.all.filter fun k => (s.ca.slots.get k).enabled).map fun k =>
      { operator := (s.ca.slots.get k).operator, sector := (s.ca.slots.get k).sector,
        load := (s.ca.slots.get k).load, bias := (s.ca.slots.get k).bias, fill := (s.ca.slots.get k).fill,
        full := (s.ca.slots.get k).full, stale := (s.ca.slots.get k).stale, off := (s.ca.slots.get k).off })

/-- Whatever bytes an image holds, the values loaded from it lie within the ranges of R2, R10, R30, R44, R92, R114 and
R159; and each is the field at its byte place of R183 where that lies within the range, the nearer end of the range
where it does not. The two temperatures are read in two's complement as R183 says: log entry 32. -/
def Obligations.LoadedSettingWithinRanges : Prop :=
  (∀ image : List Byte,
    let g := settingOf image
    (100 ≤ g.bCfg ∧ g.bCfg ≤ 20000) ∧ g.weight ≤ 4 ∧ g.shift ≤ 4 ∧ (500 ≤ g.lFull ∧ g.lFull ≤ 1000) ∧
    (1 ≤ g.tSample ∧ g.tSample ≤ 10) ∧ (20 ≤ g.tDerate ∧ g.tDerate ≤ 121) ∧
    (g.tDerate + 4 ≤ g.tCrit ∧ g.tCrit ≤ 125) ∧ (17 ≤ g.overLimit ∧ g.overLimit ≤ 32) ∧
    (1 ≤ g.returnLimit ∧ g.returnLimit ≤ 8) ∧ g.tripFilter ∈ [1, 2, 4, 8] ∧ g.maxRetries ≤ 7 ∧
    (5 ≤ g.holdOff ∧ g.holdOff ≤ 120) ∧ (1 ≤ g.beaconPeriod ∧ g.beaconPeriod ≤ 16) ∧
    (2 ≤ g.tRound ∧ g.tRound ≤ 60) ∧ g.biasMax ≤ 12 ∧ g.fillMax ≤ 6 ∧ (20 ≤ g.hUp ∧ g.hUp ≤ 500) ∧
    (20 ≤ g.hDown ∧ g.hDown ≤ 500) ∧ g.lAct ≤ 1000 ∧ (2 ≤ g.joinCount ∧ g.joinCount ≤ 8) ∧
    ∀ k, (g.slots.get k).operator ≤ 15 ∧ (g.slots.get k).sector ≤ 255 ∧
      (g.slots.get k).floor ≤ (g.slots.get k).nominal ∧ (g.slots.get k).nominal ≤ (g.slots.get k).maximum ∧
      (g.slots.get k).maximum ≤ 10000 ∧ 16 ≤ (g.slots.get k).riseFull ∧ (g.slots.get k).riseFull ≤ 255) ∧
  (∀ image : List Byte,
    let g := settingOf image
    let taken : Int → Int → Int → Int → Prop := fun low high field loaded =>
      (low ≤ field → field ≤ high → loaded = field) ∧ (field < low → loaded = low) ∧ (high < field → loaded = high)
    taken 100 20000 (wordAt image 3) g.bCfg ∧ taken 0 4 (byteAt image 5) g.weight ∧
    taken 0 4 (byteAt image 6) g.shift ∧ taken 500 1000 (wordAt image 7) g.lFull ∧
    taken 1 10 (byteAt image 9) g.tSample ∧ taken 20 121 (signedAt image 10) g.tDerate ∧
    taken (g.tDerate + 4) 125 (signedAt image 11) g.tCrit ∧ taken 17 32 (byteAt image 12) g.overLimit ∧
    taken 1 8 (byteAt image 13) g.returnLimit ∧ taken 0 7 (byteAt image 15) g.maxRetries ∧
    taken 5 120 (byteAt image 16) g.holdOff ∧ taken 1 16 (byteAt image 18) g.beaconPeriod ∧
    taken 2 60 (byteAt image 19) g.tRound ∧ taken 0 12 (byteAt image 20) g.biasMax ∧
    taken 0 6 (byteAt image 21) g.fillMax ∧ taken 20 500 (wordAt image 22) g.hUp ∧
    taken 20 500 (wordAt image 24) g.hDown ∧ taken 0 1000 (wordAt image 26) g.lAct ∧
    taken 2 8 (byteAt image 28) g.joinCount ∧ g.mask.toNat = wordAt image 29 ∧
    (∀ v ∈ [1, 2, 4, 8], v ≤ byteAt image 14 → v ≤ g.tripFilter) ∧ g.tripFilter ≤ max 1 (byteAt image 14) ∧
    (byteAt image 17 = 0 → g.rate = .kbit125) ∧ (byteAt image 17 = 2 → g.rate = .kbit500) ∧
    (byteAt image 17 ≠ 0 → byteAt image 17 ≠ 2 → g.rate = .kbit250) ∧
    ∀ k,
      let e := g.slots.get k
      let at0 := 31 + 9 * (k.number - 1)
      (byteAt image at0 ≤ 15 → e.operator = byteAt image at0) ∧ (15 < byteAt image at0 → e.operator = 0) ∧
      e.sector = byteAt image (at0 + 1) ∧ taken 0 10000 (wordAt image (at0 + 6)) e.maximum ∧
      taken 0 e.maximum (wordAt image (at0 + 2)) e.nominal ∧ taken 0 e.nominal (wordAt image (at0 + 4)) e.floor ∧
      taken 16 255 (byteAt image (at0 + 8)) e.riseFull)

/-! ## Allocation -/

/-- A pass computes each participating slot's request from its nominal power and the factor of its net trim, and divides
the budget: Case A grants the requests, Case B the effective floors and shares of the rest in proportion to the excess,
Case C the floors scaled; every grant is sent; FLR ends Active exactly in Case C. The pass starts the clean-run timer,
at four times the hold-off, of each participating slot that has retries behind it and whose timer does not run, and
stops it for each slot that does not participate (R52). -/
def Obligations.PassDividesBudget : Prop :=
  ∀ s : State,
    let t := pass s
    let req : Slot → Nat := fun k =>
      if s.participates k then
        min (s.ca.slots.get k).maximum
          ((s.ca.slots.get k).nominal *
            trimFactor (((s.ca.slots.get k).fill : Int) - ((s.ca.slots.get k).bias : Int)) / 1024)
      else 0
    let low : Slot → Nat := fun k => min (s.ca.slots.get k).floor (req k)
    let sumReq := req .s1 + req .s2 + req .s3 + req .s4 + req .s5 + req .s6
    let sumLow := low .s1 + low .s2 + low .s3 + low .s4 + low .s5 + low .s6
    let budget := s.ca.budget
    (∀ k, (t.ca.slots.get k).request = req k ∧
      (t.ca.slots.get k).lastSent = (t.ca.slots.get k).grant ∧
      (sumReq ≤ budget → (t.ca.slots.get k).grant = req k) ∧
      (sumLow ≤ budget → budget < sumReq →
        (t.ca.slots.get k).grant = low k + (req k - low k) * (budget - sumLow) / (sumReq - sumLow)) ∧
      (budget < sumLow → (t.ca.slots.get k).grant = low k * budget / sumLow)) ∧
    (sumLow ≤ budget → t.fr.isActive (.plain .flr) = false) ∧
    (budget < sumLow → s.fr.log.length < 32 → t.fr.isActive (.plain .flr) = true) ∧
    t = { s with ca := t.ca, pm := t.pm, fr := t.fr } ∧
    (∀ k, t.ca.slots.get k =
      { s.ca.slots.get k with
        request := (t.ca.slots.get k).request
        grant := (t.ca.slots.get k).grant
        lastSent := (t.ca.slots.get k).lastSent }) ∧
    t.ca.budget = s.ca.budget ∧
    (∀ k,
      let p := s.pm.slots.get k
      let q := t.pm.slots.get k
      q = { p with settle := q.settle, cleanRun := q.cleanRun } ∧
      (s.participates k = false → q.cleanRun = .stopped) ∧
      (s.participates k = true → p.retry = 0 ∨ p.cleanRun ≠ .stopped → q.cleanRun = p.cleanRun) ∧
      (∀ g, s.nc.setting = some g → s.participates k = true → 0 < p.retry → p.cleanRun = .stopped →
        q.cleanRun = .running (s.now + 4 * g.holdOff * 1000))) ∧
    t.pm = { s.pm with slots := t.pm.slots, antSettle := t.pm.antSettle }

/-- After a pass the grants together never exceed the budget in force, and where the requests do exceed it the grants
fall short of it by less than one milliwatt for each participating slot (R15). -/
def Obligations.TruncationLosesLittle : Prop :=
  ∀ s : State,
    let t := pass s
    let granted := (t.ca.slots.map SlotRecord.grant).sum
    granted ≤ s.ca.budget ∧
    (s.ca.budget < (t.ca.slots.map SlotRecord.request).sum →
      s.ca.budget < granted + (Slot.all.filter fun k => s.participates k).length)

/-- A pass hands one level frame for each slot whose grant differs from the last-sent level and none for any other, and
sets the settle flags of exactly those (R16, R18). A frame handed over takes the place of a waiting frame for its slot,
else joins the end in slot order (R17); an idle port begins the first at once (log entry 5), its bits on the port
(R182). -/
def Obligations.PassSendsChangedLevelsOnly : Prop :=
  ∀ s : State,
    let t := pass s
    let changed := Slot.all.filter fun k => !((t.ca.slots.get k).grant == (s.ca.slots.get k).lastSent)
    (∀ k, (t.pm.slots.get k).settle =
      ((s.pm.slots.get k).settle || !((t.ca.slots.get k).grant == (s.ca.slots.get k).lastSent))) ∧
    (t.pm.antSettle =
      (s.pm.antSettle || Slot.all.any fun k => !((t.ca.slots.get k).grant == (s.ca.slots.get k).lastSent))) ∧
    ((∀ k, (t.ca.slots.get k).grant = (s.ca.slots.get k).lastSent) →
      t.ca.levelQueue = s.ca.levelQueue ∧ t.ca.levelSending = s.ca.levelSending) ∧
    (∀ k, (t.ca.slots.get k).grant = (s.ca.slots.get k).lastSent → t.ca.framesFor k = s.ca.framesFor k) ∧
    (∀ k, (t.ca.slots.get k).grant ≠ (s.ca.slots.get k).lastSent →
      (t.ca.framesFor k).getLast? = some ⟨k, (t.ca.slots.get k).grant⟩) ∧
    (s.ca.levelSending ≠ none →
      t.ca.levelSending = s.ca.levelSending ∧ t.ca.levelBits = s.ca.levelBits ∧
      t.ca.levelQueue.map LevelFrame.slot =
        s.ca.levelQueue.map LevelFrame.slot ++
          changed.filter fun k => !(s.ca.levelQueue.any fun f => f.slot == k)) ∧
    (s.ca.levelSending = none → s.ca.levelQueue = [] →
      t.ca.levelSending.toList ++ t.ca.levelQueue = changed.map (fun k => ⟨k, (t.ca.slots.get k).grant⟩) ∧
      (changed = [] → t.ca.levelBits = s.ca.levelBits) ∧
      (∀ f, t.ca.levelSending = some f → t.ca.levelBits = levelBitsOf f))

/-! ## The Fault Log -/

/-- A raise (R143, R144): no change on an Active record; a Cleared one is reactivated in its place; else a record is
created at the end of the log, which where it is full first loses its oldest Cleared record. A clear (R146): an
unacknowledged Active record becomes Cleared in its place, an acknowledged one leaves the log, and without an Active
record with the key nothing changes. -/
def Obligations.RaiseAndClearActOnTheLog : Prop :=
  (∀ (fr : Recorder) (now : Nat) (k : Key) (reading : Option (Int × Int)),
    ((∃ r ∈ fr.log, r.key = k ∧ r.active = true) → fr.raise now k reading = fr) ∧
    (∀ before r after, fr.log = before ++ r :: after → r.key = k → r.active = false →
      (∀ x ∈ before ++ after, x.key ≠ k) →
      (fr.raise now k reading).log =
          before ++
            { r with
              active := true, repeats := min 255 (r.repeats + 1), raised := now / 1000, cleared := none,
              reading := reading } :: after ∧
        (fr.raise now k reading).nextSeq = fr.nextSeq ∧ (fr.raise now k reading).saturated = fr.saturated) ∧
    ((∀ x ∈ fr.log, x.key ≠ k) → fr.log.length < 32 →
      (fr.raise now k reading).log =
          fr.log ++ [⟨fr.nextSeq, k, reading, now / 1000, none, 1, true, false⟩] ∧
        (fr.raise now k reading).nextSeq = (fr.nextSeq + 1) % 65536 ∧
        (fr.raise now k reading).saturated = fr.saturated) ∧
    (∀ before r after, (∀ x ∈ fr.log, x.key ≠ k) → fr.log.length = 32 → fr.log = before ++ r :: after →
      (∀ x ∈ before, x.active = true) → r.active = false →
      (fr.raise now k reading).log =
          before ++ after ++ [⟨fr.nextSeq, k, reading, now / 1000, none, 1, true, false⟩] ∧
        (fr.raise now k reading).nextSeq = (fr.nextSeq + 1) % 65536 ∧
        (fr.raise now k reading).saturated = true)) ∧
  (∀ (fr : Recorder) (now : Nat) (k : Key),
    ((∀ x ∈ fr.log, x.key = k → x.active = false) → fr.clear now k = fr) ∧
    (∀ before r after, fr.log = before ++ r :: after → r.key = k → r.active = true →
      (∀ x ∈ before ++ after, x.key ≠ k) →
      (fr.clear now k).log =
          before ++
            (if r.acked then [] else [{ r with active := false, cleared := some (now / 1000) }]) ++ after ∧
        (fr.clear now k).nextSeq = fr.nextSeq ∧ (fr.clear now k).saturated = fr.saturated ∧
        (fr.clear now k).mask = fr.mask))

/-- Escalation (R149, R150): a Severe record that becomes Active while another is Active and unacknowledged takes a
Joining or Serving node to Withdrawn, and ANT does so by itself; there every grant is 0, bias and fill are 0 and no
round is in flight. In Withdrawn, in Unconfigured, before the first state and during a soft restart the node stays as
it is (R149, R163). A Severe record that becomes Active alone, not ANT, leaves the node state. In each case it is an
alarm cause (R91, R93): a marker at priority 0 at the head of the Transmit Queue, or, while the marker's beacon is under
way, a follow-up; none during a soft restart. The entry to Withdrawn and ANT ask for a break (R76). A change of an
enabled slot's off flag is an alarm cause likewise. -/
def Obligations.SecondSevereFaultWithdraws : Prop :=
  (∀ (s : State) (k : Key) (reading : Option (Int × Int)),
    k.kind.faultClass = .severe → (∀ r ∈ s.fr.log, r.key = k → r.active = false) → s.fr.log.length < 32 →
    let t := raiseFault k reading s
    let other := ∃ r ∈ s.fr.log, r.key ≠ k ∧ r.key.kind.faultClass = .severe ∧ r.active = true ∧ r.acked = false
    t.fr.isActive k = true ∧
    ((other ∨ k.kind = .ant) → s.onAir = true → s.nc.restart ≠ .inProgress →
      t.nc = { s.nc with state := some .withdrawn, joinTimer := .stopped } ∧ t.su = ⟨.stopped, none⟩ ∧
      ∀ j, (t.ca.slots.get j).grant = 0 ∧ (t.ca.slots.get j).bias = 0 ∧ (t.ca.slots.get j).fill = 0 ∧
        ((t.ca.slots.get j).off = (t.ca.slots.get j).enabled)) ∧
    (¬ other → k.kind ≠ .ant → t.nc = s.nc ∧ t.su = s.su ∧ t.ca = s.ca ∧ t.pm = s.pm) ∧
    (s.onAir = false ∨ s.nc.restart = .inProgress →
      t.nc = s.nc ∧ t.su = s.su ∧ t.ca = s.ca ∧ t.pm = s.pm) ∧
    t = { s with ca := t.ca, pm := t.pm, lc := t.lc, su := t.su, fr := t.fr, nc := t.nc } ∧
    (let asks := k.kind = .ant ∨ other ∧ s.onAir = true ∧ s.nc.restart ≠ .inProgress
     let spaced := s.lc.mode = .normal ∧ ∀ b ∈ s.lc.lastBreak, b + 10000 ≤ s.now
     (asks → spaced → t.lc.pendingBreak = true) ∧
     (¬ (asks ∧ spaced) → t.lc.pendingBreak = s.lc.pendingBreak)) ∧
    (s.nc.restart = .inProgress → t.lc = { s.lc with pendingBreak := t.lc.pendingBreak }) ∧
    (s.nc.restart ≠ .inProgress → s.lc.beaconUnderWay = false →
      t.lc =
        { s.lc with
          txQueue := .marker true :: s.lc.txQueue.filter fun e => e.kind != .beacon
          pendingBreak := t.lc.pendingBreak }) ∧
    (s.nc.restart ≠ .inProgress → s.lc.beaconUnderWay = true →
      t.lc = { s.lc with followUp := true, pendingBreak := t.lc.pendingBreak })) ∧
  (∀ s : State,
    let t := evaluateOff s
    let changed := ∃ k, (s.ca.slots.get k).enabled = true ∧ (s.ca.slots.get k).off ≠ s.offNow k
    (∀ k, t.ca.slots.get k = { s.ca.slots.get k with off := s.offNow k }) ∧
    (¬ changed ∨ s.nc.restart = .inProgress → t.lc = s.lc) ∧
    (changed → s.nc.restart ≠ .inProgress → s.lc.beaconUnderWay = false →
      t.lc = { s.lc with txQueue := .marker true :: s.lc.txQueue.filter fun e => e.kind != .beacon }) ∧
    (changed → s.nc.restart ≠ .inProgress → s.lc.beaconUnderWay = true →
      t.lc = { s.lc with followUp := true }) ∧
    t = { s with ca := { s.ca with slots := t.ca.slots }, lc := t.lc })

/-! ## Start, image and restart -/

/-- FULL_RESET (R156, R158): every block at its reset values and a level 0 frame for every slot; with a valid strap
address an image read begins, with an invalid one ADR is raised and the node is Unconfigured in Listen-only at
250 kbit/s. The first of the six level frames is being sent at once: the model's choice (log entry 5). -/
def Obligations.FullResetStartsThePart : Prop :=
  ∀ (straps : BitVec 6) (s : State), ∃ t, exec (.fullReset straps) s = .next t ∧
    t.ca =
      { State.reset.ca with
        levelBits := levelBitsOf ⟨.s1, 0⟩
        levelSending := some ⟨.s1, 0⟩
        levelQueue := [⟨.s2, 0⟩, ⟨.s3, 0⟩, ⟨.s4, 0⟩, ⟨.s5, 0⟩, ⟨.s6, 0⟩] } ∧
    t.now = 0 ∧ t.mi = State.reset.mi ∧ t.pm = State.reset.pm ∧ t.nt = [] ∧ t.su = State.reset.su ∧
    t.cu = State.reset.cu ∧ t.nc.strap = straps ∧ t.acts ∧ t.nc.setting = none ∧ t.nc.checkValue = 0 ∧
    t.nc.restart = .none ∧ t.nc.joinTimer = .stopped ∧
    (1 ≤ straps.toNat ∧ straps.toNat ≤ 60 →
      t.nc.state = none ∧ t.nc.reading = some 0 ∧ t.lc = State.reset.lc ∧ t.fr = State.reset.fr) ∧
    (straps.toNat = 0 ∨ 61 ≤ straps.toNat →
      t.nc.state = some .unconfigured ∧ t.nc.reading = none ∧ t.lc.inUse = true ∧ t.lc.mode = .listenOnly ∧
      t.lc.rate = .kbit250 ∧ t.lc.txQueue = [.marker true] ∧ t.lc.beaconTimer = .running 2000 ∧
      t.lc.coolTimer = .stopped ∧ t.fr.log = [⟨0, .plain .adr, none, 0, none, 1, true, false⟩] ∧
      t.fr.faultLine = true)

/-- SETTING_IMAGE_READ_END with a good image of 128 bytes (R157, R159, R161, R167): the image is loaded, the node enters
Joining with its timers started and every trim 0, and the line begins in Normal at the image's rate. At the completion
of a soft restart THM and THX are raised again for the derate step and the mute still held, with the temperature of the
last good measurement frame (R43). That a sample timer that stands expired would be started is log entry 36. -/
def Obligations.GoodImageEntersJoining : Prop :=
  ∀ (bytes : List Byte) (s : State) (began : Nat), s.acts → s.nc.reading = some began → bytes.length = 128 →
    imageGood bytes = true →
    let g := settingOf bytes
    ∃ t, exec (.settingImageReadEnd bytes) s = .next t ∧
      t.nc =
        { s.nc with
          state := some .joining
          restart := if s.nc.restart = .inProgress then .none else s.nc.restart
          restartDue := if s.nc.restart = .inProgress then false else s.nc.restartDue
          setting := some g
          checkValue := imageCrc bytes
          reading := none
          joinTimer := .running (s.now + g.joinCount * g.beaconPeriod * 500) } ∧
      SettingLaw t ∧ PowerLaw t ∧ FaultLineLaw t ∧
      (∀ k, (t.ca.slots.get k).bias = 0 ∧ (t.ca.slots.get k).fill = 0 ∧
        (t.ca.slots.get k).trip = (s.ca.slots.get k).trip) ∧
      t.mi =
        { s.mi with
          sampleTimer := s.mi.sampleTimer.orStarted (s.now + g.tSample * 1000) } ∧
      t.lc.inUse = true ∧ t.lc.mode = .normal ∧ t.lc.rate = g.rate ∧ t.lc.idleNeed = 12 ∧ t.lc.idleCount = 0 ∧
      t.lc.beaconPeriod = some g.beaconPeriod ∧ t.lc.beaconTimer = .running (s.now + g.beaconPeriod * 500) ∧
      (s.lc.phase = .quiet → .marker true ∈ t.lc.txQueue) ∧
      t = { s with mi := t.mi, ca := t.ca, pm := t.pm, lc := t.lc, fr := t.fr, nc := t.nc } ∧
      (let raisedAgain : Kind → Int → Prop := fun kind limit =>
        t.fr.isActive (.plain kind) = true ∧
          (s.fr.isActive (.plain kind) = false →
            ∃ r ∈ t.fr.log, r.key = .plain kind ∧ r.active = true ∧
              r.reading = s.mi.lastFrame.map fun m => (m.temperature, limit))
       (s.nc.restart = .inProgress → s.fr.log.length ≤ 30 →
         (0 < s.mi.derate → raisedAgain .thm g.tDerate) ∧ (s.mi.mute = true → raisedAgain .thx g.tCrit)) ∧
       (s.nc.restart ≠ .inProgress ∨ s.mi.derate = 0 →
         t.fr.isActive (.plain .thm) = s.fr.isActive (.plain .thm)) ∧
       (s.nc.restart ≠ .inProgress ∨ s.mi.mute = false →
         t.fr.isActive (.plain .thx) = s.fr.isActive (.plain .thx)))

/-- SETTING_IMAGE_READ_END with fewer than 128 bytes or a bad image (R157, R160, R167): CFG is raised and the node
enters Unconfigured with no image held, the line in Normal at 250 kbit/s. The clock comes to the end of the 50 ms
where it lags: log entry 2. -/
def Obligations.BadImageEntersUnconfigured : Prop :=
  ∀ (bytes : List Byte) (s : State) (began : Nat), s.acts → s.nc.reading = some began →
    (bytes.length < 128 ∨ bytes.length = 128 ∧ imageGood bytes = false) →
    ∃ t, exec (.settingImageReadEnd bytes) s = .next t ∧
      t.now = (if bytes.length < 128 then s.moment (began + 50) else s.now) ∧
      t.nc =
        { s.nc with
          state := some .unconfigured
          restart := .none
          restartDue := false
          setting := none
          checkValue := if bytes.length < 128 then 0 else imageCrc bytes
          reading := none
          joinTimer := .stopped } ∧
      SettingLaw t ∧ PowerLaw t ∧ FaultLineLaw t ∧
      (s.fr.log.length < 32 → t.fr.isActive (.plain .cfg) = true ∧ t.fr.faultLine = true) ∧
      (∀ k, (t.ca.slots.get k).grant = 0 ∧ (t.ca.slots.get k).bias = 0 ∧ (t.ca.slots.get k).fill = 0) ∧
      t.mi = { s.mi with sampleTimer := .stopped, derate := 0, mute := false } ∧ t.su = ⟨.stopped, none⟩ ∧
      t.lc.inUse = true ∧ t.lc.mode = .normal ∧ t.lc.rate = .kbit250 ∧ t.lc.idleNeed = 12 ∧
      t.lc.beaconPeriod = some 4 ∧ t.lc.beaconTimer = .running (t.now + 2000) ∧
      (s.lc.phase = .quiet → .marker true ∈ t.lc.txQueue) ∧ t.nt = s.nt ∧ t.cu = s.cu ∧ t.pending = s.pending

/-- SOFT_RESTART_BEGIN (R165, R166), once the reply has left and no frame is being sent: every block takes the values
of the beginning of a soft restart, a level 0 frame is handed for each slot whose last-sent level is not 0 (R24), and an
image read starts; before that nothing happens. Every Active record is Cleared with the restart's moment, in its place,
or leaves the log where it was acknowledged (R153). That a command whose event
cannot occur changes nothing is log entry 3. -/
def Obligations.SoftRestartSetsBlocks : Prop :=
  ∀ s : State, s.acts →
    (s.nc.restart = .pending → s.nc.restartDue = true → (∀ a, s.lc.phase ≠ .sending a) →
      ∃ t, exec .softRestartBegin s = .next t ∧
        t.nc =
          { s.nc with
            restart := .inProgress, restartDue := false, joinTimer := .stopped, reading := some s.now } ∧
        t.mi = { s.mi with sampleTimer := .stopped } ∧
        t.pm = State.reset.pm ∧ t.nt = [] ∧ t.su = ⟨.stopped, none⟩ ∧ t.cu = ⟨none, none⟩ ∧
        t.lc = { State.reset.lc with rate := s.lc.rate, beaconPeriod := s.lc.beaconPeriod } ∧
        (∀ k, t.ca.slots.get k =
          { s.ca.slots.get k with
            load := 0, stale := true, full := false, bias := 0, fill := 0, trip := .clear, request := 0, grant := 0,
            lastSent := 0, off := false }) ∧
        t.ca.budget = s.ca.budget ∧ (LevelPortLaw s → LevelPortLaw t) ∧
        (∀ k, ((s.ca.slots.get k).lastSent = 0 → t.ca.framesFor k = s.ca.framesFor k) ∧
          ((s.ca.slots.get k).lastSent ≠ 0 → (t.ca.framesFor k).getLast? = some ⟨k, 0⟩)) ∧
        (∀ k, k ∉ t.fr.log.map Record.key ↔ ∀ r ∈ s.fr.log, r.key = k → r.active = true ∧ r.acked = true) ∧
        t.fr.log =
          (s.fr.log.filter fun r => !(r.active && r.acked)).map (fun r =>
            if r.active then { r with active := false, cleared := some (s.now / 1000) } else r) ∧
        (∀ r ∈ t.fr.log, r.active = false) ∧ t.fr.faultLine = false ∧ t.fr.nextSeq = s.fr.nextSeq ∧
        t.fr.saturated = s.fr.saturated ∧ t.fr.mask = s.fr.mask ∧ t.now = s.now) ∧
    ((s.nc.restart ≠ .pending ∨ s.nc.restartDue = false ∨ ∃ a, s.lc.phase = .sending a) →
      exec .softRestartBegin s = .next s)

/-! ## Measurement frames, the sample timer and the level port -/

/-- MEASUREMENT_FRAME with a bad frame, another number of bits than 36 bytes of 8 (R26, R182; log entry 35) or a CRC-8
that does not match (R27): discarded whole. -/
def Obligations.BadMeasurementFrameIsDiscarded : Prop :=
  ∀ (bits : List Bool) (s : State),
    let bytes := bytesOfBits 36 bits
    (bits.length ≠ 288 ∨ crc8 (bytes.take 35) ≠ bytes.getD 35 0) → exec (.measurementFrame bits) s = .next s

/-- MEASUREMENT_FRAME with a good frame where load indices are updated (R28, R29, R31 to R34): it becomes the last good
frame, restarts the sample timer, clears the stale flags and SMP, and moves each enabled slot's load index toward the
instantaneous load. In Unconfigured, before the first state and during a soft restart the frame still becomes the last
good frame and acts on the sample timer, and stale flags, SMP, load indices and full flags stand (R31). -/
def Obligations.GoodFrameMovesLoads : Prop :=
  (∀ (bits : List Bool) (s : State) (m : MeasFrame) (g : Setting), s.acts → parseMeasurement bits = some m →
    s.nc.setting = some g → s.configured = true → s.nc.restart ≠ .inProgress →
    ∃ t, exec (.measurementFrame bits) s = .next t ∧
      t.mi.lastFrame =
        some
          { m with
            occupancy := m.occupancy.map (min 1000), temperature := max (-40) (min 125 m.temperature) } ∧
      t.mi.sampleTimer =
        (if s.mi.sampleTimer = .stopped then .stopped else .running (s.now + g.tSample * 1000)) ∧
      t.fr.isActive (.plain .smp) = false ∧
      (∀ k,
        let r := s.ca.slots.get k
        let rise := min 1000 (m.rise.get k * 1000 / r.riseFull)
        let goal := (min 1000 (m.occupancy.get k) * g.weight + rise * (4 - g.weight)) / 4
        let load := if r.load ≤ goal then r.load + (goal - r.load) / 2 ^ g.shift
          else r.load - (r.load - goal) / 2 ^ g.shift
        (t.ca.slots.get k).stale = false ∧
        (t.ca.slots.get k).load = (if r.enabled then load else r.load) ∧
        (t.ca.slots.get k).full = (if r.enabled then decide (g.lFull ≤ load) else r.full)) ∧
      t.now = s.now ∧ t.nt = s.nt ∧ t.cu = s.cu ∧ t.lc.rxQueue = s.lc.rxQueue ∧ t.lc.mode = s.lc.mode ∧
      t.nc.setting = s.nc.setting) ∧
  (∀ (bits : List Bool) (s : State) (m : MeasFrame), s.acts → parseMeasurement bits = some m →
    s.configured = false ∨ s.nc.restart = .inProgress →
    ∃ t, exec (.measurementFrame bits) s = .next t ∧
      t.mi.lastFrame =
        some
          { m with
            occupancy := m.occupancy.map (min 1000), temperature := max (-40) (min 125 m.temperature) } ∧
      (s.mi.sampleTimer = .stopped → t.mi.sampleTimer = .stopped) ∧
      (∀ g, s.nc.setting = some g → s.mi.sampleTimer ≠ .stopped →
        t.mi.sampleTimer = .running (s.now + g.tSample * 1000)) ∧
      t.fr.isActive (.plain .smp) = s.fr.isActive (.plain .smp) ∧
      (∀ k, (t.ca.slots.get k).stale = (s.ca.slots.get k).stale ∧
        (t.ca.slots.get k).load = (s.ca.slots.get k).load ∧ (t.ca.slots.get k).full = (s.ca.slots.get k).full) ∧
      (s.nc.setting = none → t.mi.derate = s.mi.derate ∧ t.mi.mute = s.mi.mute) ∧
      t.now = s.now ∧ t.nt = s.nt ∧ t.cu = s.cu ∧ t.nc = s.nc)

/-- MEASUREMENT_FRAME with a good frame while an image is held (R28, R38, R39, R41): derate step and thermal mute follow
the temperature, and where either changes the budget in force and the grants follow. A THM or THX raised carries the
frame's temperature and T_derate or T_crit (R40, R41). -/
def Obligations.GoodFrameDecidesDerating : Prop :=
  ∀ (bits : List Bool) (s : State) (m : MeasFrame) (g : Setting), s.acts → parseMeasurement bits = some m →
    s.nc.setting = some g →
    let heat := max (-40) (min 125 m.temperature)
    let step := if heat < g.tDerate then 0 else min 8 (((heat - g.tDerate) / 2).toNat + 1)
    let d := s.mi.derate
    let d' := if d < step then step
      else if step < d ∧ heat ≤ g.tDerate + 2 * ((d : Int) - 1) - 3 then d - 1 else d
    let mute' := if s.mi.mute then !decide (heat ≤ g.tCrit - 5) else decide (g.tCrit ≤ heat)
    ∃ t, exec (.measurementFrame bits) s = .next t ∧ t.mi.derate = d' ∧ t.mi.mute = mute' ∧
      (d' ≠ d ∨ mute' ≠ s.mi.mute →
        t.ca.budget = g.bCfg * (16 - d') / 16 ∧ t.allotted ∧ t.offFlagsStand) ∧
      (d' = d → mute' = s.mi.mute → t.ca.budget = s.ca.budget) ∧
      (0 < d → d' = 0 → t.fr.isActive (.plain .thm) = false) ∧
      (d = 0 → 0 < d' → s.fr.log.length ≤ 20 → t.fr.isActive (.plain .thm) = true) ∧
      (s.mi.mute = true → mute' = false → t.fr.isActive (.plain .thx) = false) ∧
      (s.mi.mute = false → mute' = true → s.fr.log.length ≤ 20 → t.fr.isActive (.plain .thx) = true) ∧
      (let raised : Kind → Int → Prop := fun kind limit =>
        s.fr.log.length ≤ 20 → s.fr.isActive (.plain kind) = false →
          ∃ r ∈ t.fr.log, r.key = .plain kind ∧ r.active = true ∧ r.reading = some (heat, limit)
       (d = 0 → 0 < d' → raised .thm g.tDerate) ∧ (s.mi.mute = false → mute' = true → raised .thx g.tCrit))

/-- MEASUREMENT_FRAME with a good frame (R47, R48, R49, R55, R56): every filter count counts the consecutive failing
tests on arrival values, a slot or antenna not tested counts 0, and at the trip filter the count is 0 again and the
slot leaves Clear or the antenna latches. A settle flag set on arrival is clear after the tests (R45 step 3, R46), and
where nothing trips or latches the flags set afterwards are those of the level frames that a change of derate step or
mute hands over. With no image held every filter count is 0 (R44) and every settle flag is clear. -/
def Obligations.FilterCountsFollowTests : Prop :=
  (∀ (bits : List Bool) (s : State) (m : MeasFrame) (g : Setting), s.acts → parseMeasurement bits = some m →
    s.nc.setting = some g →
    ∃ t, exec (.measurementFrame bits) s = .next t ∧
      (∀ k,
        let tested := s.configured = true ∧ s.nc.restart ≠ .inProgress ∧ s.participates k = true ∧
          20 ≤ (s.ca.slots.get k).grant ∧ (s.pm.slots.get k).settle = false
        let fails := (s.ca.slots.get k).grant * g.overLimit < m.forward.get k * 16
        let n := (s.pm.slots.get k).filter + 1
        (¬ (tested ∧ fails) → (t.pm.slots.get k).filter = 0 ∧
          (t.ca.slots.get k).trip = (s.ca.slots.get k).trip) ∧
        (tested → fails → n < g.tripFilter → (t.pm.slots.get k).filter = n ∧
          (t.ca.slots.get k).trip = (s.ca.slots.get k).trip) ∧
        (tested → fails → g.tripFilter ≤ n → (t.pm.slots.get k).filter = 0 ∧
          (t.ca.slots.get k).trip ≠ .clear) ∧
        (t.pm.slots.get k).retry = (s.pm.slots.get k).retry) ∧
      (let tested := s.configured = true ∧ s.nc.restart ≠ .inProgress ∧ s.pm.antLatch = false ∧
          s.pm.antSettle = false ∧ 50 ≤ m.compForward
       let fails := m.compForward * g.returnLimit < m.compReflected * 16
       let n := s.pm.antFilter + 1
       (¬ (tested ∧ fails) → t.pm.antFilter = 0 ∧ t.pm.antLatch = s.pm.antLatch) ∧
       (tested → fails → n < g.tripFilter → t.pm.antFilter = n ∧ t.pm.antLatch = s.pm.antLatch) ∧
       (tested → fails → g.tripFilter ≤ n → t.pm.antFilter = 0 ∧ t.pm.antLatch = true)) ∧
      (let steady := t.mi.derate = s.mi.derate ∧ t.mi.mute = s.mi.mute
       let latches := s.antennaTested m = true ∧ m.compForward * g.returnLimit < m.compReflected * 16 ∧
         g.tripFilter ≤ s.pm.antFilter + 1
       let quiet := (∀ k, ¬ s.overDriven g m k) ∧ ¬ latches
       (steady → ∀ k, (s.pm.slots.get k).settle = true → (t.pm.slots.get k).settle = false) ∧
       (steady → s.pm.antSettle = true → t.pm.antSettle = false) ∧
       (quiet → steady → (∀ k, (t.pm.slots.get k).settle = false) ∧ t.pm.antSettle = false) ∧
       (quiet → ¬ steady →
         (∀ k, (t.pm.slots.get k).settle = !((t.ca.slots.get k).grant == (s.ca.slots.get k).lastSent)) ∧
         t.pm.antSettle = Slot.all.any fun k => !((t.ca.slots.get k).grant == (s.ca.slots.get k).lastSent)))) ∧
  (∀ (bits : List Bool) (s : State) (m : MeasFrame), s.acts → parseMeasurement bits = some m →
    s.nc.setting = none →
    ∃ t, exec (.measurementFrame bits) s = .next t ∧ t.pm.antFilter = 0 ∧ t.pm.antSettle = false ∧
      t.pm.antLatch = s.pm.antLatch ∧
      ∀ k, t.pm.slots.get k = { s.pm.slots.get k with filter := 0, settle := false })

/-- MEASUREMENT_FRAME that trips a slot (R19, R49, R50): Tripped with its hold-off timer started where retries are left
and its fill is 0, else Latched; in either case its grant and last-sent level are 0, its off flag is set, its settle
flag is set, its clean-run timer stopped and, where its last-sent level was not 0, a level 0 frame handed over. OVD or
OVL becomes Active with the forward power and the limit of the arrival grant. The clause on a filling slot is for a
frame on which no slot before it is over-driven. -/
def Obligations.OverDrivenSlotTrips : Prop :=
  ∀ (bits : List Bool) (s : State) (m : MeasFrame) (g : Setting) (k : Slot), s.acts →
    parseMeasurement bits = some m → s.nc.setting = some g → s.overDriven g m k →
    ∃ t, exec (.measurementFrame bits) s = .next t ∧
      (let recorded : Kind → Prop := fun kind =>
        s.fr.log.length ≤ 20 → s.fr.isActive (.ofSlot kind k) = false →
          ∃ r ∈ t.fr.log, r.key = .ofSlot kind k ∧ r.active = true ∧
            r.reading =
              some ((m.forward.get k : Int), (((s.ca.slots.get k).grant * g.overLimit / 16 : Nat) : Int))
       ((s.pm.slots.get k).retry < g.maxRetries → (s.ca.slots.get k).fill = 0 →
         (t.ca.slots.get k).trip = .tripped ∧
         (t.pm.slots.get k).holdOff = .running (s.now + g.holdOff * 1000) ∧ recorded .ovd) ∧
       (g.maxRetries ≤ (s.pm.slots.get k).retry →
         (t.ca.slots.get k).trip = .latched ∧ (t.pm.slots.get k).holdOff = (s.pm.slots.get k).holdOff ∧
         recorded .ovl) ∧
       ((s.pm.slots.get k).retry < g.maxRetries → 0 < (s.ca.slots.get k).fill →
         (∀ j, j.number < k.number → ¬ s.overDriven g m j) →
         (t.ca.slots.get k).trip = .latched ∧ (t.pm.slots.get k).holdOff = (s.pm.slots.get k).holdOff ∧
         recorded .ovl)) ∧
      ((s.ca.slots.get k).lastSent ≠ 0 → (t.ca.framesFor k).getLast? = some ⟨k, 0⟩) ∧
      (t.ca.slots.get k).grant = 0 ∧ (t.ca.slots.get k).lastSent = 0 ∧ (t.ca.slots.get k).off = true ∧
      (t.pm.slots.get k).settle = true ∧ (t.pm.slots.get k).cleanRun = .stopped ∧
      (s.pm.antSettle = false → t.pm.antSettle = true)

/-- MEASUREMENT_FRAME that latches the antenna (R55, R56, R76, R150): the node goes to Withdrawn with every grant 0, ANT
is Active with the reflected power and the limit of the forward power, and in Normal a break is pending where none was
sent within 10 s. -/
def Obligations.AntennaLatchWithdrawsNode : Prop :=
  ∀ (bits : List Bool) (s : State) (m : MeasFrame) (g : Setting), s.acts → parseMeasurement bits = some m →
    s.nc.setting = some g → s.antennaTested m = true → m.compForward * g.returnLimit < m.compReflected * 16 →
    g.tripFilter ≤ s.pm.antFilter + 1 → s.fr.isActive (.plain .ant) = false → s.fr.log.length ≤ 20 →
    ∃ t, exec (.measurementFrame bits) s = .next t ∧ t.pm.antLatch = true ∧
      t.fr.isActive (.plain .ant) = true ∧
      (∃ r ∈ t.fr.log, r.key = .plain .ant ∧ r.active = true ∧
        r.reading = some ((m.compReflected : Int), ((m.compForward * g.returnLimit / 16 : Nat) : Int))) ∧
      (s.onAir = true → t.nc.state = some .withdrawn ∧ t.su = ⟨.stopped, none⟩ ∧
        ∀ k, (t.ca.slots.get k).grant = 0) ∧
      (s.lc.mode = .normal → (∀ b ∈ s.lc.lastBreak, b + 10000 ≤ s.now) → t.lc.pendingBreak = true)

/-- SAMPLE_TIMER_EXPIRY (R36): every stale flag set, SMP raised, the timer left expired, loads and full flags held;
with the timer not running nothing happens. CLEAN_RUN_EXPIRY (R52): the retry count is 0 again and nothing else
changes. The clock comes to the deadline where it lags (log entry 2); an expiry of a timer that does not run changes
nothing (log entry 3). -/
def Obligations.SampleAndCleanRunTimersExpire : Prop :=
  (∀ s : State, s.acts →
    (∀ due, s.mi.sampleTimer = .running due →
      ∃ t, exec .sampleTimerExpiry s = .next t ∧ t.now = s.moment due ∧
        t.mi = { s.mi with sampleTimer := .expired } ∧
        t.ca = { s.ca with slots := s.ca.slots.map fun r => { r with stale := true } } ∧
        (s.fr.log.length < 32 → t.fr.isActive (.plain .smp) = true) ∧
        t = { s with now := t.now, mi := t.mi, ca := t.ca, fr := t.fr }) ∧
    ((∀ due, s.mi.sampleTimer ≠ .running due) → exec .sampleTimerExpiry s = .next s)) ∧
  (∀ (k : Slot) (s : State) (due : Nat), s.acts → (s.pm.slots.get k).cleanRun = .running due →
    ∃ t, exec (.cleanRunExpiry k) s = .next t ∧ t.now = s.moment due ∧
      t.pm.slots.get k = { s.pm.slots.get k with retry := 0, cleanRun := .stopped } ∧
      (∀ j, j ≠ k → t.pm.slots.get j = s.pm.slots.get j) ∧
      t = { s with now := t.now, pm := { s.pm with slots := t.pm.slots } })

/-- LEVEL_FRAME_SENT (R17, R182): the frame being sent completes and the oldest waiting frame, if any, begins, its bits
on the port, and leaves the queue; nothing else changes. -/
def Obligations.LevelFrameSentStartsOldest : Prop :=
  ∀ s : State, s.acts →
    (∀ f rest, s.ca.levelQueue = f :: rest →
      exec .levelFrameSent s =
        .next
          { s with ca := { s.ca with levelSending := some f, levelBits := levelBitsOf f, levelQueue := rest } }) ∧
    (s.ca.levelQueue = [] →
      exec .levelFrameSent s = .next { s with ca := { s.ca with levelSending := none, levelBits := [] } })

/-- HOLD_OFF_EXPIRY (R51): the slot is Clear with its retry count raised and its hold-off timer stopped, its OVD
record is not Active, and requests, grants and off flags stand as the pass leaves them. The clock comes to the
deadline where it lags: log entry 2. -/
def Obligations.HoldOffExpiryReleasesSlot : Prop :=
  ∀ (k : Slot) (s : State) (due : Nat), s.acts → (s.pm.slots.get k).holdOff = .running due →
    ∃ t, exec (.holdOffExpiry k) s = .next t ∧ t.now = s.moment due ∧
      (t.ca.slots.get k).trip = .clear ∧ (t.pm.slots.get k).retry = (s.pm.slots.get k).retry + 1 ∧
      (t.pm.slots.get k).holdOff = .stopped ∧ t.fr.isActive (.ofSlot .ovd k) = false ∧
      (∀ j, j ≠ k → (t.ca.slots.get j).trip = (s.ca.slots.get j).trip ∧
        (t.pm.slots.get j).retry = (s.pm.slots.get j).retry ∧
        (t.pm.slots.get j).holdOff = (s.pm.slots.get j).holdOff) ∧
      (∀ j, (t.ca.slots.get j).bias = (s.ca.slots.get j).bias ∧ (t.ca.slots.get j).fill = (s.ca.slots.get j).fill ∧
        (t.ca.slots.get j).load = (s.ca.slots.get j).load ∧
        (t.pm.slots.get j).filter = (s.pm.slots.get j).filter) ∧
      t.allotted ∧ t.offFlagsStand ∧ t.ca.budget = s.ca.budget ∧
      t = { s with now := t.now, ca := t.ca, pm := t.pm, lc := t.lc, fr := t.fr }

/-! ## Rounds -/

/-- ROUND_TIMER_EXPIRY (R115, R116): a round begins with the reading of the enabled slots, the Neighbour Table, ISO
and the parameters as they stand, its decisions are made, and the timer starts again; nothing is written to the table.
The clock comes to the deadline where it lags: log entry 2. That a round still in flight is replaced is log
entry 22. -/
def Obligations.RoundTimerExpiryBeginsRound : Prop :=
  ∀ (s : State) (due : Nat) (g : Setting), s.acts → s.su.roundTimer = .running due → s.nc.setting = some g →
    ∃ t r, exec .roundTimerExpiry s = .next t ∧ t.now = s.moment due ∧
      t.su = { roundTimer := .running (s.moment due + g.tRound * 1000), round := some r } ∧
      t = { s with now := t.now, su := t.su } ∧
      r.reading.iso = s.fr.isActive (.plain .iso) ∧
      r.reading.params = ⟨g.tRound, g.biasMax, g.fillMax, g.hUp, g.hDown, g.lAct⟩ ∧
      r.reading.entries = s.nt.map (fun e => ⟨e.address, e.age, e.reported, e.slots⟩) ∧
      ∀ k,
        let x := s.ca.slots.get k
        let read : ReadSlot := ⟨x.operator, x.sector, x.load, x.stale, x.trip, x.bias, x.fill⟩
        r.reading.slots.get k = (if x.enabled then some read else none) ∧
        r.decided.get k = (if x.enabled then some (decideSlot r.reading read) else none)

/-- What a round decides for a slot, case by case in the order of R120, with fill demand as R123 and R131 give it: the
cases 1 to 5, and in case 6 fill 0 and the bias of the partner comparison (R127). -/
def Obligations.RoundDecidesByCase : Prop :=
  ∀ (g : Reading) (r : ReadSlot),
    let demand := ∃ e ∈ g.entries, ∃ n ∈ e.slots, n.operator = r.operator ∧ n.sector = r.sector ∧
      (e.age = .silent ∨ e.reported = .withdrawn ∨
        ∃ x ∈ e.slots, x.operator = r.operator ∧ x.sector = r.sector ∧ x.off = true)
    let d := decideSlot g r
    (r.trip ≠ .clear → d = ⟨0, 0⟩) ∧
    (r.trip = .clear → g.iso = true → d = ⟨r.bias - 1, r.fill - 1⟩) ∧
    (r.trip = .clear → g.iso = false → demand → d = ⟨0, min (r.fill + 1) g.params.fillMax⟩) ∧
    (r.trip = .clear → g.iso = false → ¬ demand → 0 < r.fill → d = ⟨0, r.fill - 1⟩) ∧
    (r.trip = .clear → g.iso = false → ¬ demand → r.fill = 0 → r.stale = true → d = ⟨r.bias - 1, 0⟩) ∧
    (r.trip = .clear → g.iso = false → ¬ demand → r.fill = 0 → r.stale = false → d = ⟨compareBias g r, 0⟩) ∧
    (r.stale = true → d.bias ≤ r.bias) ∧ d.bias ≤ r.bias + 1 ∧ d.fill ≤ r.fill + 1

/-- The partner comparison (R126, R127), for entries whose slot lists carry distinct operators (R99): without a
candidate the bias falls, without a partner it holds, and otherwise it follows the excess over the partners' mean
load. -/
def Obligations.PartnerComparisonSetsBias : Prop :=
  ∀ (g : Reading) (r : ReadSlot), (∀ e ∈ g.entries, (e.slots.map NbSlot.operator).Nodup) →
    let candidates := (g.entries.filter fun e => e.age == .present && e.reported == .serving).flatMap fun e =>
      e.slots.filter fun n => n.operator == r.operator && n.sector != r.sector
    let partners := candidates.filter fun n => !n.full && !n.stale && !n.off
    let mean := (partners.map NbSlot.load).sum / partners.length
    let excess : Int := (r.load : Int) - (mean : Int)
    (candidates = [] → compareBias g r = r.bias - 1) ∧
    (candidates ≠ [] → partners = [] → compareBias g r = r.bias) ∧
    (partners ≠ [] → g.params.lAct ≤ r.load → (g.params.hUp : Int) < excess →
      compareBias g r = min (r.bias + 1) g.params.biasMax) ∧
    (partners ≠ [] → ¬ (g.params.lAct ≤ r.load ∧ (g.params.hUp : Int) < excess) →
      (excess < -(g.params.hDown : Int) ∨ r.load < g.params.lAct) → compareBias g r = r.bias - 1) ∧
    (partners ≠ [] → g.params.lAct ≤ r.load → -(g.params.hDown : Int) ≤ excess → excess ≤ (g.params.hUp : Int) →
      compareBias g r = r.bias)

/-- ROUND_COMMIT (R118): every enabled slot takes the decided trims, or 0 and 0 where it is not Clear, a pass runs over
them, and the round is over; neither the round timer nor the beacon marker changes. -/
def Obligations.RoundCommitWritesTrims : Prop :=
  ∀ (s : State) (r : Round), s.acts → s.su.round = some r →
    ∃ t, exec .roundCommit s = .next t ∧ t.su = { s.su with round := none } ∧
      (∀ k,
        let x := s.ca.slots.get k
        let y := t.ca.slots.get k
        (x.enabled = false → y.bias = x.bias ∧ y.fill = x.fill) ∧
        (x.enabled = true → x.trip ≠ .clear → y.bias = 0 ∧ y.fill = 0) ∧
        (∀ d, x.enabled = true → x.trip = .clear → r.decided.get k = some d → y.bias = d.bias ∧ y.fill = d.fill) ∧
        y =
          { x with
            bias := y.bias, fill := y.fill, request := y.request, grant := y.grant, lastSent := y.lastSent }) ∧
      t.allotted ∧ t.ca.budget = s.ca.budget ∧
      t = { s with ca := t.ca, pm := t.pm, su := t.su, fr := t.fr }

/-- JOIN_TIMER_EXPIRY (R162): the node enters Serving with its trims as they are, the round timer starts from its full
length, and the entry is an alarm cause. The clock comes to the deadline where it lags: log entry 2. -/
def Obligations.JoinTimerExpiryEntersServing : Prop :=
  ∀ (s : State) (due : Nat) (g : Setting), s.acts → s.nc.joinTimer = .running due → s.nc.setting = some g →
    ∃ t, exec .joinTimerExpiry s = .next t ∧ t.now = s.moment due ∧
      t.nc = { s.nc with state := some .serving, joinTimer := .stopped } ∧
      t.su = { s.su with roundTimer := .running (s.moment due + g.tRound * 1000) } ∧
      t.allotted ∧ t.offFlagsStand ∧ t.ca.budget = s.ca.budget ∧
      (∀ k, (t.ca.slots.get k).bias = (s.ca.slots.get k).bias ∧ (t.ca.slots.get k).fill = (s.ca.slots.get k).fill ∧
        (t.ca.slots.get k).trip = (s.ca.slots.get k).trip) ∧
      (s.nc.restart ≠ .inProgress → s.lc.beaconUnderWay = false → .marker true ∈ t.lc.txQueue) ∧
      t = { s with now := t.now, ca := t.ca, pm := t.pm, lc := t.lc, su := t.su, fr := t.fr, nc := t.nc }

/-! ## The Neighbour Table -/

/-- STALE_DEADLINE and SILENT_DEADLINE (R105, R106): 2P after the time last heard a Present entry becomes Stale; 4P
after it an entry becomes Silent and NBL is raised for its address; no other entry changes. GONE_DEADLINE (R107,
R108): 16P after the time last heard a Silent entry that relates to the node stays with its record, and one that does
not is removed and its NBL record cleared; on an entry that is not Silent, or whose Gone deadline has fallen, nothing
changes. The clock comes to the deadline where it lags (log entry 2); a deadline
that cannot fall changes nothing (log entries 3 and 21). -/
def Obligations.NeighbourAgesByItsPeriod : Prop :=
  (∀ (a : Nat) (s : State) (e : Entry), s.acts → s.nt.find? (fun x => x.address == a) = some e →
    (e.age = .present →
      exec (.staleDeadline a) s =
        .next
          { s with
            now := s.moment (e.heard + 2 * (e.period * 500))
            nt := s.nt.map fun x => if x.address = a then { x with age := .stale } else x }) ∧
    (e.age ≠ .present → exec (.staleDeadline a) s = .next s) ∧
    (e.age ≠ .silent →
      ∃ t, exec (.silentDeadline a) s = .next t ∧ t.now = s.moment (e.heard + 4 * (e.period * 500)) ∧
        t.nt = (s.nt.map fun x => if x.address = a then { x with age := .silent } else x) ∧
        (s.fr.log.length < 32 → t.fr.isActive ⟨.nbl, none, some a⟩ = true) ∧
        t = { s with now := t.now, nt := t.nt, fr := t.fr }) ∧
    (e.age = .silent → exec (.silentDeadline a) s = .next s)) ∧
  (∀ (a : Nat) (s : State) (e : Entry), s.acts → s.nt.find? (fun x => x.address == a) = some e → e.age = .silent →
    e.goneFallen = false →
    let relates := ∃ k, (s.ca.slots.get k).enabled = true ∧ ∃ n ∈ e.slots,
      n.operator = (s.ca.slots.get k).operator ∧ n.sector = (s.ca.slots.get k).sector
    (relates →
      exec (.goneDeadline a) s =
        .next
          { s with
            now := s.moment (e.heard + 16 * (e.period * 500))
            nt := s.nt.map fun x => if x.address = a then { x with goneFallen := true } else x }) ∧
    (¬ relates →
      ∃ t, exec (.goneDeadline a) s = .next t ∧ t.now = s.moment (e.heard + 16 * (e.period * 500)) ∧
        t.nt = s.nt.filter (fun x => x.address != a) ∧ t.fr.isActive ⟨.nbl, none, some a⟩ = false ∧
        t = { s with now := t.now, nt := t.nt, fr := t.fr })) ∧
  (∀ (a : Nat) (s : State) (e : Entry), s.acts → s.nt.find? (fun x => x.address == a) = some e →
    e.age ≠ .silent ∨ e.goneFallen = true → exec (.goneDeadline a) s = .next s)

/-- BEACON_APPLY (R82, R101 to R104): a beacon that meets the conditions updates the entry of its source, or creates
one at the end, in a full table in place of the entry heard longest ago of those that share no operator with the node;
any other beacon is dropped; in each case it leaves the Receive Queue. A head held by a round stays (R81). That
BEACON_APPLY changes nothing while a round holds the head is log entry 3. -/
def Obligations.BeaconUpdatesNeighbourTable : Prop :=
  ∀ (s : State) (f : Frame) (rest : List Frame), s.acts → s.lc.rxQueue = f :: rest → f.kind = 1 →
    s.cu.current = none → s.nc.restart ≠ .inProgress →
    let accepted := 1 ≤ f.source ∧ f.source ≤ 60 ∧ f.source ≠ s.nc.strap.toNat ∧ f.dest = 0 ∧
      2 ≤ f.payload.length ∧ byteAt f.payload 1 % 8 ≤ 6 ∧ f.payload.length = 4 + 4 * (byteAt f.payload 1 % 8)
    let b := beaconContent f.payload
    let fresh : Entry :=
      { address := f.source, age := .present, heard := s.now, period := b.period, reported := b.reported,
        summary := b.summary, slots := if b.reported = .unconfigured then [] else b.slots, goneFallen := false }
    let shares : Entry → Prop := fun e => ∃ k, (s.ca.slots.get k).enabled = true ∧
      ∃ n ∈ e.slots, n.operator = (s.ca.slots.get k).operator
    (¬ accepted → exec .beaconApply s = .next { s with lc := { s.lc with rxQueue := rest } }) ∧
    (accepted → s.su.round.isSome = true → exec .beaconApply s = .next s) ∧
    (accepted → s.su.round = none →
      ∃ t, exec .beaconApply s = .next t ∧ t.lc = { s.lc with rxQueue := rest } ∧
        t = { s with lc := t.lc, nt := t.nt, fr := t.fr } ∧
        (∀ e, s.nt.find? (fun x => x.address == f.source) = some e →
          t.nt =
            (s.nt.map fun x =>
              if x.address = f.source then
                { fresh with
                  address := x.address
                  slots :=
                    if b.reported = .unconfigured then x.slots.map fun n => { n with off := true } else b.slots }
              else x) ∧
          (e.age = .silent → t.fr.isActive ⟨.nbl, none, some e.address⟩ = false) ∧
          (e.age ≠ .silent → t.fr = s.fr)) ∧
        ((∀ e ∈ s.nt, e.address ≠ f.source) → s.nt.length < 16 → t.nt = s.nt ++ [fresh] ∧ t.fr = s.fr) ∧
        ((∀ e ∈ s.nt, e.address ≠ f.source) → s.nt.length = 16 → (∀ e ∈ s.nt, shares e) →
          t.nt = s.nt ∧ t.fr = s.fr) ∧
        ((∀ e ∈ s.nt, e.address ≠ f.source) → s.nt.length = 16 → (∃ e ∈ s.nt, ¬ shares e) →
          ∃ before old after, s.nt = before ++ old :: after ∧ ¬ shares old ∧
            (∀ e ∈ before, ¬ shares e → old.heard < e.heard) ∧ (∀ e ∈ after, ¬ shares e → old.heard ≤ e.heard) ∧
            t.nt = s.nt.filter (fun e => e.address != old.address) ++ [fresh] ∧
            (old.age = .silent → t.fr.isActive ⟨.nbl, none, some old.address⟩ = false)))

/-! ## The peer line -/

/-- PEER_FRAME_RECEIVED at idle with a good frame of another source (R63, R64, R67, R68, R75, R86, R87): its outcome
joins the window; a frame for the node joins a Receive Queue with room and is acknowledged; the hold bit is driven
where the queue then holds 4 frames; in Listen-only neither bit is driven; an overrun leaves a Cleared RXO record; LNQ
follows the window. -/
def Obligations.GoodPeerFrameIsTaken : Prop :=
  ∀ (n : Nat) (line : List Sample) (othersHold : Bool) (s : State) (f : Frame) (noisy : Bool), s.receives →
    s.lc.idleNeed ≤ n → decodeFrame line = .good f noisy → s.seesTwin f = false →
    ∃ t, exec (.peerFrameReceived ⟨n, line⟩ othersHold) s = .next t ∧
      t.lc.window =
        (s.lc.window ++ [if noisy then LineOutcome.noisy else LineOutcome.good]).drop (s.lc.window.length + 1 - 16) ∧
      t.lc.rxQueue = (if f.dest = 0 ∨ f.dest = s.nc.strap.toNat then queueWith s.lc.rxQueue f else s.lc.rxQueue) ∧
      (t.lc.ackDriven = true ↔ s.isFor f ∧ s.lc.rxQueue.length < 4 ∧ s.lc.mode ≠ .listenOnly) ∧
      (t.lc.holdDriven = true ↔ 4 ≤ t.lc.rxQueue.length ∧ s.lc.mode ≠ .listenOnly) ∧
      t.lc.idleNeed = (if t.lc.holdDriven || othersHold then 40 else 12) ∧ t.lc.idleCount = 0 ∧
      t.lc =
        { s.lc with
          window := t.lc.window, rxQueue := t.lc.rxQueue, ackDriven := t.lc.ackDriven,
          holdDriven := t.lc.holdDriven, idleNeed := t.lc.idleNeed, idleCount := t.lc.idleCount } ∧
      (s.isFor f → 4 ≤ s.lc.rxQueue.length → (∀ r ∈ s.fr.log, r.acked = true → r.active = true) →
        s.fr.isActive (.plain .rxo) = false → s.fr.log.length < 31 →
        ∃ r ∈ t.fr.log, r.key = .plain .rxo ∧ r.active = false ∧ r.raised = s.now / 1000 ∧
          r.cleared = some (s.now / 1000)) ∧
      (4 ≤ (t.lc.window.filter fun o => o != .good).length → s.fr.log.length < 31 →
        t.fr.isActive (.plain .lnq) = true) ∧
      (2 ≤ (t.lc.window.filter fun o => o != .good).length → (t.lc.window.filter fun o => o != .good).length ≤ 3 →
        t.fr.isActive (.plain .lnq) = s.fr.isActive (.plain .lnq)) ∧
      ((t.lc.window.filter fun o => o != .good).length ≤ 1 → t.fr.isActive (.plain .lnq) = false) ∧
      t = { s with lc := t.lc, fr := t.fr }

/-- PEER_FRAME_RECEIVED otherwise. At idle a bad frame joins the window as bad, LNQ follows the window, neither bit is
driven, nothing is taken and the gap of 12 counts from the bit that made it bad (R63, R64, R75; log entry 9 for its
hold bit); one that a break cuts off (R77; a dominant run of 16 bit times: log entry 7), or that does not end within
the samples (log entry 3), leaves no trace. A start bit before the line is idle (R63, R65) is noise that restarts the
idle count, or the start of a frame decoded as at idle: log entry 34. In the rest of a frame in which the node met its
own bit error (R69) the frame has no outcome: it ends, with the gap of its hold bit; a frame of the node's own address
is then no twin where the node sent it to the end of its check field (R73). -/
def Obligations.BadPeerFrameIsNotTaken : Prop :=
  (∀ (n : Nat) (line : List Sample) (othersHold : Bool) (s : State), s.receives → s.lc.idleNeed ≤ n →
    (decodeFrame line = .bad →
      ∃ t, exec (.peerFrameReceived ⟨n, line⟩ othersHold) s = .next t ∧
        t.lc =
          { s.lc with
            window := (s.lc.window ++ [LineOutcome.bad]).drop (s.lc.window.length + 1 - 16), ackDriven := false,
            holdDriven := false, idleNeed := 12, idleCount := 0 } ∧
        (let damaged := (t.lc.window.filter fun o => o != .good).length
         (4 ≤ damaged → s.fr.log.length < 32 → t.fr.isActive (.plain .lnq) = true) ∧
         (2 ≤ damaged → damaged ≤ 3 → t.fr.isActive (.plain .lnq) = s.fr.isActive (.plain .lnq)) ∧
         (damaged ≤ 1 → t.fr.isActive (.plain .lnq) = false)) ∧
        t = { s with lc := t.lc, fr := t.fr }) ∧
    (decodeFrame line = .cut ∨ decodeFrame line = .unfinished →
      exec (.peerFrameReceived ⟨n, line⟩ othersHold) s = .next s)) ∧
  (∀ (n : Nat) (x : Sample) (line : List Sample) (othersHold : Bool) (s : State), s.receives → n < s.lc.idleNeed →
    x.majority = false →
    exec (.peerFrameReceived ⟨n, x :: line⟩ othersHold) s = .next { s with lc := { s.lc with idleCount := 0 } } ∨
    exec (.peerFrameReceived ⟨n, x :: line⟩ othersHold) s =
      exec (.peerFrameReceived ⟨s.lc.idleNeed, x :: line⟩ othersHold) s) ∧
  (∀ (n : Nat) (line : List Sample) (othersHold : Bool) (s : State) (a : Attempt) (queued : Bool)
      (part : FrameRest), s.hears → s.lc.phase = .errored a queued part → part ≠ .over →
    let ended : Bool → State := fun hold =>
      { s with
        lc :=
          { s.lc with
            phase := .errored a queued .over, ackDriven := false, holdDriven := false,
            idleNeed := if hold then 40 else 12, idleCount := 0 } }
    (∀ f noisy, decodeFrame line = .good f noisy → part = .sent ∨ s.seesTwin f = false →
      exec (.peerFrameReceived ⟨n, line⟩ othersHold) s = .next (ended othersHold)) ∧
    (decodeFrame line = .bad → exec (.peerFrameReceived ⟨n, line⟩ othersHold) s = .next (ended false)) ∧
    (decodeFrame line = .cut ∨ decodeFrame line = .unfinished →
      exec (.peerFrameReceived ⟨n, line⟩ othersHold) s = .next s))

/-- PEER_FRAME_RECEIVED with the node's own source address (R73): from Normal to Listen-only with the cool-down at 30 s,
from Probing with the length doubled up to 240 s, in Listen-only the mode and the timer stand; in each case the
transmit error count stands, the bits are not driven, and the frame is offered to the queue; DUP is Active. It holds
also in the rest of a frame in which the node met its own bit error before the end of its check field (R69, log
entry 10), which no window records. TXF stands, and the RESTART reply that a pending restart waits for makes the restart
due when the entry to Listen-only drops it (R165). -/
def Obligations.OwnAddressHeardStopsSending : Prop :=
  ∀ (n : Nat) (line : List Sample) (othersHold : Bool) (s : State) (f : Frame) (noisy : Bool), s.hears →
    (s.lc.inOwnErroredFrame = false → s.lc.idleNeed ≤ n) → (∀ a queued, s.lc.phase ≠ .errored a queued .sent) →
    decodeFrame line = .good f noisy → f.source = s.nc.strap.toNat → 1 ≤ f.source → f.source ≤ 60 →
    ∃ t, exec (.peerFrameReceived ⟨n, line⟩ othersHold) s = .next t ∧ t.lc.mode = .listenOnly ∧
      (s.lc.inOwnErroredFrame = true → t.lc.window = s.lc.window ∧ t.lc.inOwnErroredFrame = false) ∧
      (s.lc.inOwnErroredFrame = false →
        t.lc.window =
          (s.lc.window ++ [if noisy then LineOutcome.noisy else LineOutcome.good]).drop
            (s.lc.window.length + 1 - 16)) ∧
      t.lc.idleNeed = (if othersHold then 40 else 12) ∧ t.lc.idleCount = 0 ∧
      t.lc.txErrors = s.lc.txErrors ∧ t.lc.ackDriven = false ∧ t.lc.holdDriven = false ∧
      t.lc.rxQueue = (if f.dest = 0 ∨ f.dest = s.nc.strap.toNat then queueWith s.lc.rxQueue f else s.lc.rxQueue) ∧
      (s.fr.log.length ≤ 20 → t.fr.isActive (.plain .dup) = true) ∧
      (s.lc.mode = .normal → t.lc.coolLength = 30 ∧ t.lc.coolTimer = .running (s.now + 30000)) ∧
      (s.lc.mode = .probing →
        t.lc.coolLength = min 240 (2 * s.lc.coolLength) ∧
        t.lc.coolTimer = .running (s.now + min 240 (2 * s.lc.coolLength) * 1000)) ∧
      (s.lc.mode ≠ .listenOnly → (∀ e ∈ t.lc.txQueue, e.kind = .beacon) ∧ t.lc.pendingBreak = false ∧
        t.cu = ⟨none, none⟩) ∧
      (s.lc.mode = .listenOnly → t.lc.coolLength = s.lc.coolLength ∧ t.lc.coolTimer = s.lc.coolTimer ∧
        t.cu = s.cu) ∧
      (let awaited := s.nc.restart = .pending ∧
        ((∃ dest payload, .reply dest payload true ∈ s.lc.txQueue) ∨
          ∃ c, s.cu.current = some c ∧ c.reply.restart = true)
       (s.lc.mode ≠ .listenOnly → awaited → t.nc.restartDue = true) ∧
       (s.lc.mode = .listenOnly ∨ ¬ awaited → t.nc.restartDue = s.nc.restartDue) ∧
       t.nc.restart = s.nc.restart ∧ t.fr.isActive (.plain .txf) = s.fr.isActive (.plain .txf)) ∧
      t.now = s.now ∧ t.nt = s.nt ∧ t.mi = s.mi

/-- TRANSMISSION_START (R63, R65, R76, R80, R89): before the line is idle nothing is sent; at idle a Normal node sends a
pending break, else the first entry; a Probing node its beacon marker; in Listen-only nothing. The entry stays in the
queue; its frame bears the node's address, and its kind, destination and priority by R80. -/
def Obligations.IdleLineStartsChosenEntry : Prop :=
  ∀ (n : Nat) (s : State), s.acts → s.lc.inUse = true → s.lc.phase = .quiet →
    let counted : State := { s with lc := { s.lc with idleCount := n } }
    let idle := s.lc.breakRun = false ∧ s.lc.idleNeed ≤ n
    let breaks := s.lc.pendingBreak = true ∧ s.lc.mode = .normal
    let starts : TxEntry → Bool → State := fun e probe =>
      { s with
        lc := { s.lc with phase := .sending ⟨e.kind, s.frameSent e, probe⟩, breakSeen := false, idleCount := 0 } }
    (¬ idle → exec (.transmissionStart n) s = .next counted) ∧
    (idle → breaks →
      exec (.transmissionStart n) s =
        .next
          { s with
            lc :=
              { s.lc with
                phase := .sendingBreak, breakSeen := false, pendingBreak := false, lastBreak := some s.now,
                idleCount := 0 } }) ∧
    (∀ e rest, idle → ¬ breaks → s.lc.mode = .normal → s.lc.txQueue = e :: rest →
      exec (.transmissionStart n) s = .next (starts e false)) ∧
    (∀ e, idle → s.lc.mode = .probing → s.lc.txQueue.find? (fun x => x.kind == .beacon) = some e →
      exec (.transmissionStart n) s = .next (starts e true)) ∧
    (idle → ¬ breaks →
      (s.lc.mode = .listenOnly ∨ s.lc.mode = .normal ∧ s.lc.txQueue = [] ∨
        s.lc.mode = .probing ∧ ∀ e ∈ s.lc.txQueue, e.kind ≠ .beacon) →
      exec (.transmissionStart n) s = .next counted)

/-- ARBITRATION_LOST (R66): a sender that reads dominant where it sent recessive in the priority or source field stops
driving; its entry, its error count and its unheard count stay. A recorded alarm follow-up raises the marker (R91).
BIT_ERROR (R67, R69): a sender that reads back another value than it sent, outside the acknowledge and hold bits and
not by losing arbitration, stops driving; the entry stays for the settlement; in the end field the acknowledge bit has
been read, and a beacon's record stands (R67, R74). The gap set at the error, 12 before the end field and by the hold
bit in it, is log entry 9 beside R63. In the stuff bit after the last check bit the frame is one that the node sent
(R73). -/
def Obligations.ReadBackEndsSending : Prop :=
  (∀ (position : Nat) (readBack : Sample) (s : State) (a : Attempt) (w : WireBit), s.acts →
    s.lc.phase = .sending a → (wireBits a.frame)[position]? = some w → w.role = .arbitration → w.bit = true →
    readBack.majority = false →
    ∃ t, exec (.arbitrationLost position readBack) s = .next t ∧ t.lc.phase = .quiet ∧
      (s.lc.followUp = false → t.lc = { s.lc with phase := .quiet }) ∧
      (s.lc.followUp = true → t.lc.followUp = false ∧ .marker true ∈ t.lc.txQueue ∧
        t.lc.txQueue.filter (fun e => e.kind != .beacon) = s.lc.txQueue.filter (fun e => e.kind != .beacon)) ∧
      t.lc.txErrors = s.lc.txErrors ∧ t.lc.unheard = s.lc.unheard ∧ t = { s with lc := t.lc }) ∧
  (∀ (position : Nat) (readBack : Sample) (ack hold : Bool) (s : State) (a : Attempt) (w : WireBit), s.acts →
    s.lc.phase = .sending a → (wireBits a.frame)[position]? = some w → w.bit ≠ readBack.majority →
    w.role ≠ .acknowledge → w.role ≠ .hold → ¬ (w.role = .arbitration ∧ w.bit = true) →
    (w.role ≠ .ending →
      exec (.bitError position readBack ack hold) s =
        .next
          { s with
            lc :=
              { s.lc with
                phase :=
                  .errored a true
                    (if w.role = .stuff ∧ position + 12 = (wireBits a.frame).length then .sent else .unsent)
                idleNeed := 12
                idleCount := 0 } }) ∧
    (w.role = .ending →
      ∃ t, exec (.bitError position readBack ack hold) s = .next t ∧ t.lc.phase = .errored a true .over ∧
        t.lc.idleNeed = (if hold then 40 else 12) ∧ t.lc.txQueue = s.lc.txQueue ∧
        t.lc.txErrors = s.lc.txErrors ∧
        (a.owner = .beacon → t.lc.unheard = if ack then 0 else min 3 (s.lc.unheard + 1)) ∧
        (a.owner ≠ .beacon → t.lc.unheard = s.lc.unheard ∧ t.fr = s.fr) ∧
        t = { s with lc := t.lc, fr := t.fr }))

/-- TRANSMIT_FRAME_END (R63, R67, R68, R70, R72, R74, R165, R178): a clean frame ends; the error count falls by 1, the
entry leaves, a beacon marker too, and a recorded alarm follow-up sets a new marker at priority 0 (R91); the hold bit
sets the gap; a beacon's record moves the unheard count and ISO; a probe returns the node to Normal; a stream frame's
record moves the stream; the RESTART reply that a pending restart waits for makes the restart due. -/
def Obligations.CleanFrameEndsAttempt : Prop :=
  ∀ (ack hold : Bool) (s : State) (a : Attempt), s.acts → s.lc.phase = .sending a →
    let probed := a.owner = .beacon ∧ a.probe = true ∧ s.lc.mode = .probing
    ∃ t, exec (.transmitFrameEnd ack hold) s = .next t ∧ t.lc.phase = .quiet ∧
      t.lc.idleNeed = (if hold then 40 else 12) ∧ t.lc.idleCount = 0 ∧
      (¬ probed → t.lc.txErrors = s.lc.txErrors - 1 ∧ t.lc.mode = s.lc.mode) ∧
      (probed → t.lc.txErrors = 0 ∧ t.lc.mode = .normal ∧ t.lc.coolLength = 30 ∧
        t.fr.isActive (.plain .txf) = false ∧ t.fr.isActive (.plain .dup) = false) ∧
      (a.owner = .beacon →
        t.lc.unheard = (if ack then 0 else min 3 (s.lc.unheard + 1)) ∧
        (ack = true → t.fr.isActive (.plain .iso) = false) ∧
        (ack = false → 2 ≤ s.lc.unheard → s.fr.log.length < 32 → t.fr.isActive (.plain .iso) = true) ∧
        (s.lc.followUp = false → t.lc.txQueue = s.lc.txQueue.eraseP (fun e => e.kind == .beacon)) ∧
        (s.lc.followUp = true →
          t.lc.txQueue = .marker true :: s.lc.txQueue.filter (fun e => e.kind != .beacon)) ∧
        t.lc.followUp = false ∧ t.cu = s.cu ∧ t.nc = s.nc) ∧
      (a.owner ≠ .beacon → t.lc.txQueue = s.lc.txQueue.eraseP (fun e => e.kind == a.owner) ∧
        t.lc.unheard = s.lc.unheard ∧ t.lc.followUp = s.lc.followUp ∧ t.fr = s.fr) ∧
      (∀ dest payload waited, a.owner = .reply →
        s.lc.txQueue.find? (fun e => e.kind == .reply) = some (.reply dest payload waited) →
        t.cu = s.cu ∧
        t.nc = if waited && s.nc.restart == .pending then { s.nc with restartDue := true } else s.nc) ∧
      (∀ dest payload final c, a.owner = .stream →
        s.lc.txQueue.find? (fun e => e.kind == .stream) = some (.stream dest payload final) →
        s.cu.stream = some c →
        t.nc = s.nc ∧ t.cu.current = s.cu.current ∧
        t.cu.stream =
          if final = true ∨ (ack = false ∧ 1 ≤ c.unheard) then none
          else some { c with unheard := if ack then 0 else c.unheard + 1 }) ∧
      t.lc.rxQueue = s.lc.rxQueue ∧ t.lc.window = s.lc.window ∧
      t = { s with lc := t.lc, fr := t.fr, nc := t.nc, cu := t.cu }

/-- BIT_ERROR_SETTLE (R70, R71, R72): before the line is idle only the count is noted. At idle, after a break, nothing
is counted and the entry stays; otherwise the count rises by 1 up to 8 and the entry leaves, a beacon marker too; at 8 a
Normal node enters Listen-only; a failed probe returns to it with the cool-down doubled; in both all entries but the
marker leave; below 8 a Normal node stays Normal. In each case a recorded alarm follow-up sets or raises the marker at
priority 0 (R91). A removed stream frame counts as unheard (R178), and the RESTART reply that a pending restart waits
for makes the restart due when it leaves or is dropped (R165). That a failed probe is told by the attempt and the mode
at the settlement, and that an entry emptied before it only raises the count, is the model's choice (log entry 11); so
is that a stream frame with a bit error in its end field counts as unheard, beside R67 (log entry 24). -/
def Obligations.BitErrorIsSettledAtIdle : Prop :=
  ∀ (n : Nat) (s : State) (a : Attempt) (queued : Bool) (part : FrameRest), s.acts →
    s.lc.phase = .errored a queued part →
    (s.lc.breakRun = true ∨ n < s.lc.idleNeed →
      exec (.bitErrorSettle n) s = .next { s with lc := { s.lc with idleCount := n } }) ∧
    (s.lc.breakRun = false → s.lc.idleNeed ≤ n →
      let count := min 8 (s.lc.txErrors + 1)
      let failed := a.probe = true ∧ s.lc.mode = .probing
      let falls := failed ∨ s.lc.mode = .normal ∧ count = 8
      let left := if queued then s.lc.txQueue.eraseP (fun e => e.kind == a.owner) else s.lc.txQueue
      let awaited := s.nc.restart = .pending ∧
        ((∃ dest payload, .reply dest payload true ∈ s.lc.txQueue) ∨
          ∃ c, s.cu.current = some c ∧ c.reply.restart = true)
      let stands : State → List TxEntry → Prop := fun t q =>
        (s.lc.followUp = false → t.lc.txQueue = q) ∧
        (s.lc.followUp = true → t.lc.txQueue = .marker true :: q.filter (fun e => e.kind != .beacon)) ∧
        t.lc.followUp = false
      ∃ t, exec (.bitErrorSettle n) s = .next t ∧ t.lc.phase = .quiet ∧
        (s.lc.breakSeen = true → t.lc.txErrors = s.lc.txErrors ∧ t.lc.mode = s.lc.mode ∧ stands t s.lc.txQueue ∧
          t = { s with lc := t.lc }) ∧
        (s.lc.breakSeen = false → t.lc.txErrors = count ∧
          (¬ falls → stands t left ∧ t.lc.mode = s.lc.mode ∧ t.lc.pendingBreak = s.lc.pendingBreak ∧ t.fr = s.fr ∧
            (queued = false ∨ a.owner = .beacon → t.cu = s.cu ∧ t.nc = s.nc) ∧
            (∀ dest payload waited, queued = true → a.owner = .reply →
              s.lc.txQueue.find? (fun e => e.kind == .reply) = some (.reply dest payload waited) →
              t.cu = s.cu ∧
              t.nc = if waited && s.nc.restart == .pending then { s.nc with restartDue := true } else s.nc) ∧
            (∀ dest payload final c, queued = true → a.owner = .stream →
              s.lc.txQueue.find? (fun e => e.kind == .stream) = some (.stream dest payload final) →
              s.cu.stream = some c →
              t.nc = s.nc ∧ t.cu.current = s.cu.current ∧
              t.cu.stream = if final = true ∨ 1 ≤ c.unheard then none
                else some { c with unheard := c.unheard + 1 })) ∧
          (falls → stands t (left.filter fun e => e.kind == .beacon) ∧ t.lc.mode = .listenOnly ∧
            t.lc.pendingBreak = false ∧ t.cu = ⟨none, none⟩ ∧
            (awaited → t.nc = { s.nc with restartDue := true }) ∧ (¬ awaited → t.nc = s.nc) ∧
            (s.fr.log.length < 32 → t.fr.isActive (.plain .txf) = true)) ∧
          (s.lc.mode = .normal → count = 8 → t.lc.coolLength = 30 ∧
            t.lc.coolTimer = .running (s.now + 30000)) ∧
          (failed → t.lc.coolLength = min 240 (2 * s.lc.coolLength) ∧
            t.lc.coolTimer = .running (s.now + min 240 (2 * s.lc.coolLength) * 1000))) ∧
        t.lc.rxQueue = s.lc.rxQueue ∧ t.lc.window = s.lc.window ∧ t.lc.unheard = s.lc.unheard ∧
        t = { s with lc := t.lc, fr := t.fr, nc := t.nc, cu := t.cu })

/-- BREAK_DETECTED and BREAK_END (R63, R77, R78): a break is recorded for the settlement; a Normal node that did not
send it sets a beacon marker at priority 3 where it has none; when the break ends the idle count starts with 12 bit
times. -/
def Obligations.BreakSetsMarkerAndGap : Prop :=
  ∀ s : State, s.acts →
    (s.lc.inUse = true → s.lc.breakRun = false →
      ∃ t, exec .breakDetected s = .next t ∧ t.lc.breakRun = true ∧ t.lc.breakSeen = true ∧ t.lc.idleCount = 0 ∧
        t.lc.txQueue =
          (if s.lc.mode = .normal ∧ s.lc.phase ≠ .sendingBreak ∧ ∀ e ∈ s.lc.txQueue, e.kind ≠ .beacon
            then s.lc.txQueue ++ [.marker false] else s.lc.txQueue) ∧
        t.lc.txErrors = s.lc.txErrors ∧ t.lc.window = s.lc.window ∧ t = { s with lc := t.lc }) ∧
    (s.lc.breakRun = true →
      ∃ t, exec .breakEnd s = .next t ∧
        t.lc =
          { s.lc with
            breakRun := false, idleNeed := 12, idleCount := 0,
            phase := if s.lc.phase = .sendingBreak then .quiet else s.lc.phase } ∧
        t = { s with lc := t.lc })

/-- BEACON_TIMER_EXPIRY and COOL_DOWN_EXPIRY (R72, R91, R92): a marker joins the end of the queue at priority 3 where
there is none; the beacon timer starts again from the declared period; at the cool-down's end the node is Probing. The
clock comes to the deadline where it lags: log entry 2. -/
def Obligations.TimersSetPeriodicMarker : Prop :=
  ∀ (s : State) (due : Nat), s.acts →
    let marked := if ∀ e ∈ s.lc.txQueue, e.kind ≠ .beacon then s.lc.txQueue ++ [.marker false] else s.lc.txQueue
    (∀ p, s.lc.beaconTimer = .running due → s.lc.beaconPeriod = some p →
      exec .beaconTimerExpiry s =
        .next
          { s with
            now := s.moment due
            lc := { s.lc with txQueue := marked, beaconTimer := .running (s.moment due + p * 500) } }) ∧
    (s.lc.coolTimer = .running due →
      exec .coolDownExpiry s =
        .next
          { s with
            now := s.moment due
            lc := { s.lc with txQueue := marked, mode := .probing, coolTimer := .stopped } })

/-! ## Monitor commands -/

/-- FRAME_DROP (R84): a frame at the head that is neither a beacon nor a command leaves the queue and changes nothing
else. That FRAME_DROP changes nothing with a beacon or a command at the head is log entry 3. -/
def Obligations.OtherFramesAreDropped : Prop :=
  ∀ (s : State) (f : Frame) (rest : List Frame), s.acts → s.lc.rxQueue = f :: rest → s.cu.current = none →
    s.nc.restart ≠ .inProgress →
    (f.kind ≠ 1 → f.kind ≠ 2 → exec .frameDrop s = .next { s with lc := { s.lc with rxQueue := rest } }) ∧
    (f.kind = 1 ∨ f.kind = 2 → exec .frameDrop s = .next s)

/-- COMMAND_HANDOVER (R83, R90, R168, R169): a command to every station, to another station or without a tag is
dropped; one from source 0 or the node's own address is discarded; one from a zone node is answered NOT_ALLOWED; one
with an unknown code UNKNOWN; and one of the six codes acts as that command's own row, which is the handover of that
command (log entry 12). The reply waits in the Command Unit until REPLY_ENQUEUE, even where a place is free (log entry
13). -/
def Obligations.HandoverDecidesCommand : Prop :=
  ∀ (s : State) (f : Frame) (rest : List Frame), s.acts → s.lc.rxQueue = f :: rest → f.kind = 2 →
    s.cu.current = none → s.nc.restart ≠ .inProgress →
    let own := s.nc.strap.toNat
    let dropped : State := { s with lc := { s.lc with rxQueue := rest } }
    let handed := f.dest = own ∧ f.dest ≠ 0 ∧ 2 ≤ f.payload.length
    let answered : Nat → State := fun status =>
      { dropped with cu := { s.cu with current := replyWaiting s.lc.mode f status [] false none } }
    (¬ handed → exec .commandHandover s = .next dropped) ∧
    (handed → f.source = 0 ∨ f.source = own → exec .commandHandover s = .next dropped) ∧
    (handed → f.source ≠ 0 → f.source ≠ own → f.source ≤ 60 → exec .commandHandover s = .next (answered 3)) ∧
    (handed → f.source ≠ own → 61 ≤ f.source → byteAt f.payload 0 = 0 ∨ 7 ≤ byteAt f.payload 0 →
      exec .commandHandover s = .next (answered 5)) ∧
    (handed →
      (byteAt f.payload 0 = 1 → exec .commandHandover s = exec .identify s) ∧
      (byteAt f.payload 0 = 2 → exec .commandHandover s = exec .ackFaults s) ∧
      (byteAt f.payload 0 = 3 → exec .commandHandover s = exec .clearTrip s) ∧
      (byteAt f.payload 0 = 4 → exec .commandHandover s = exec .restore s) ∧
      (byteAt f.payload 0 = 5 → exec .commandHandover s = exec .restart s) ∧
      (byteAt f.payload 0 = 6 → exec .commandHandover s = exec .dump s))

/-- IDENTIFY (R171, R181): the reply carries part code 0640h, revision 2, the strap address, the image check value, the
node state and the line mode; nothing else changes. The row is the command's handover (log entry 12), and the reply
waits in the Command Unit, the Transmit Queue unchanged (log entry 13). -/
def Obligations.IdentifyReportsNode : Prop :=
  ∀ (s : State) (f : Frame) (rest : List Frame) (n : NodeState), s.commandAtHead f rest 1 → s.nc.state = some n →
    exec .identify s =
      .next
        { s with
          lc := { s.lc with rxQueue := rest }
          cu :=
            { s.cu with
              current :=
                replyWaiting s.lc.mode f 0
                  [0x06, 0x40, 2, s.nc.strap.setWidth 8, s.nc.checkValue.extractLsb' 8 8,
                    s.nc.checkValue.extractLsb' 0 8, n.shown, s.lc.mode.shown]
                  false none } }

/-- ACK_FAULTS (R151, R172): the covered unacknowledged records are acknowledged, those of them that are Cleared leave
the log, the log-saturated flag is cleared, the reply carries their number, and neither the summary nor the fault line
changes; too few arguments give BAD_ARG and no effect. The row is the command's handover (log entry 12), and the
reply waits in the Command Unit (log entry 13). -/
def Obligations.AckFaultsCoversRecords : Prop :=
  ∀ (s : State) (f : Frame) (rest : List Frame), s.commandAtHead f rest 2 →
    let upTo := wordAt f.payload 2
    let covered : Record → Bool := fun r =>
      decide ((upTo + 65536 - r.seq) % 65536 < 32768) && !r.acked
    (4 ≤ f.payload.length →
      ∃ t, exec .ackFaults s = .next t ∧
        t.fr =
          { s.fr with
            saturated := false
            log :=
              (s.fr.log.filter fun r => !(covered r && !r.active)).map fun r =>
                if covered r then { r with acked := true } else r } ∧
        t.fr.summary = s.fr.summary ∧
        t.cu =
          { s.cu with
            current := replyWaiting s.lc.mode f 0 [byteOf (s.fr.log.filter covered).length] false none } ∧
        t = { s with lc := { s.lc with rxQueue := rest }, fr := t.fr, cu := t.cu }) ∧
    (f.payload.length < 4 →
      exec .ackFaults s =
        .next
          { s with
            lc := { s.lc with rxQueue := rest }
            cu := { s.cu with current := replyWaiting s.lc.mode f 4 [] false none } })

/-- CLEAR_TRIP (R57, R173): in Joining, Serving and Withdrawn the slots of the target are Clear, each that was not with
retry count and filter count 0, its timers stopped and its OVD and OVL records not Active; target 0 or 7 clears the
antenna latch and ANT; a pass runs; the reply is DONE without data. In Unconfigured it is REFUSED; a missing target or
one above 7 is BAD_ARG. The row is the command's handover (log entry 12), and the reply waits in the Command Unit (log
entry 13). -/
def Obligations.ClearTripClearsTarget : Prop :=
  ∀ (s : State) (f : Frame) (rest : List Frame), s.commandAtHead f rest 3 →
    let target := byteAt f.payload 2
    let answered : Nat → State := fun status =>
      { s with
        lc := { s.lc with rxQueue := rest }
        cu := { s.cu with current := replyWaiting s.lc.mode f status [] false none } }
    (f.payload.length < 3 ∨ 7 < target → exec .clearTrip s = .next (answered 4)) ∧
    (3 ≤ f.payload.length → target ≤ 7 → s.configured = false → exec .clearTrip s = .next (answered 2)) ∧
    (3 ≤ f.payload.length → target ≤ 7 → s.configured = true →
      ∃ t, exec .clearTrip s = .next t ∧
        (∀ k, target = 0 ∨ target = k.number →
          (t.ca.slots.get k).trip = .clear ∧
          ((s.ca.slots.get k).trip ≠ .clear →
            (t.pm.slots.get k).retry = 0 ∧ (t.pm.slots.get k).filter = 0 ∧
            (t.pm.slots.get k).holdOff = .stopped ∧ (t.pm.slots.get k).cleanRun = .stopped ∧
            t.fr.isActive (.ofSlot .ovd k) = false ∧ t.fr.isActive (.ofSlot .ovl k) = false)) ∧
        (∀ k, ¬ (target = 0 ∨ target = k.number) ∨ (s.ca.slots.get k).trip = .clear →
          (t.ca.slots.get k).trip = (s.ca.slots.get k).trip ∧
          (t.pm.slots.get k).retry = (s.pm.slots.get k).retry ∧
          (t.pm.slots.get k).holdOff = (s.pm.slots.get k).holdOff) ∧
        (target = 0 ∨ target = 7 → t.pm.antLatch = false ∧
          (s.pm.antLatch = true → t.pm.antFilter = 0 ∧ t.fr.isActive (.plain .ant) = false)) ∧
        (1 ≤ target → target ≤ 6 → t.pm.antLatch = s.pm.antLatch) ∧
        t.allotted ∧ t.offFlagsStand ∧ t.ca.budget = s.ca.budget ∧
        t.cu = { s.cu with current := replyWaiting s.lc.mode f 0 [] false none } ∧ t.lc.rxQueue = rest ∧
        t = { s with lc := t.lc, ca := t.ca, pm := t.pm, fr := t.fr, cu := t.cu })

/-- RESTORE (R164, R174): a Withdrawn node with no Active Severe record enters Joining and answers DONE with its new
state; with one it answers REFUSED and stays; in every other state it answers DONE with the state and changes nothing.
The row is the command's handover (log entry 12), and the reply waits in the Command Unit (log entry 13).
An expired sample timer is started at the entry to Joining: log entry 36. -/
def Obligations.RestoreReturnsToJoining : Prop :=
  ∀ (s : State) (f : Frame) (rest : List Frame), s.commandAtHead f rest 4 →
    let severe := ∃ r ∈ s.fr.log, r.active = true ∧ r.key.kind.faultClass = .severe
    let answered : Nat → List Byte → State := fun status data =>
      { s with
        lc := { s.lc with rxQueue := rest }
        cu := { s.cu with current := replyWaiting s.lc.mode f status data false none } }
    (s.nc.state = some .withdrawn → severe → exec .restore s = .next (answered 2 [])) ∧
    (s.nc.state = some .unconfigured → exec .restore s = .next (answered 0 [0])) ∧
    (s.nc.state = some .joining → exec .restore s = .next (answered 0 [1])) ∧
    (s.nc.state = some .serving → exec .restore s = .next (answered 0 [2])) ∧
    (∀ g, s.nc.state = some .withdrawn → ¬ severe → s.nc.setting = some g →
      ∃ t, exec .restore s = .next t ∧
        t.nc =
          { s.nc with
            state := some .joining, joinTimer := .running (s.now + g.joinCount * g.beaconPeriod * 500) } ∧
        (∀ k, (t.ca.slots.get k).bias = 0 ∧ (t.ca.slots.get k).fill = 0 ∧
          (t.ca.slots.get k).trip = (s.ca.slots.get k).trip) ∧
        t.allotted ∧ t.offFlagsStand ∧ t.lc.beaconTimer = .running (s.now + g.beaconPeriod * 500) ∧
        t.mi =
          { s.mi with
            sampleTimer := s.mi.sampleTimer.orStarted (s.now + g.tSample * 1000) } ∧
        t.cu = { s.cu with current := replyWaiting s.lc.mode f 0 [1] false none } ∧ t.lc.rxQueue = rest ∧
        t = { s with lc := t.lc, mi := t.mi, ca := t.ca, pm := t.pm, fr := t.fr, nc := t.nc, cu := t.cu })

/-- RESTART (R165, R175): with a valid strap address a soft restart becomes pending and the reply that it waits for is
DONE, at once due where Listen-only drops that reply; while one is pending nothing changes but the reply; with an
invalid strap address it is REFUSED. That the restart is due at once where the reply is dropped follows R165. The
row is the command's handover (log entry 12), and the reply waits in the Command Unit (log entry 13). -/
def Obligations.RestartBecomesPending : Prop :=
  ∀ (s : State) (f : Frame) (rest : List Frame), s.commandAtHead f rest 5 →
    let own := s.nc.strap.toNat
    let answered : Nat → Bool → State := fun status waited =>
      { s with
        lc := { s.lc with rxQueue := rest }
        cu := { s.cu with current := replyWaiting s.lc.mode f status [] waited none } }
    (1 ≤ own → own ≤ 60 → s.nc.restart = .none →
      exec .restart s =
        .next
          { answered 0 true with
            nc := { s.nc with restart := .pending, restartDue := decide (s.lc.mode = .listenOnly) } }) ∧
    (1 ≤ own → own ≤ 60 → s.nc.restart = .pending → exec .restart s = .next (answered 0 false)) ∧
    (own = 0 ∨ 61 ≤ own → exec .restart s = .next (answered 2 false))

/-- DUMP (R176, R181): the reply carries the number of records to follow, and where that is above 0 the stream that it
begins; BUSY while a stream runs; BAD_ARG for too few arguments or an unknown table. The row is the command's
handover (log entry 12), and the reply waits in the Command Unit (log entry 13). -/
def Obligations.DumpAnnouncesRecords : Prop :=
  ∀ (s : State) (f : Frame) (rest : List Frame), s.commandAtHead f rest 6 →
    let table := byteAt f.payload 2
    let start := byteAt f.payload 3
    let count := max 1 (min 32 (byteAt f.payload 4))
    let present := if table = 1 then s.fr.log.length else if table = 2 then s.nt.length else if table = 3 then 6
      else if s.nc.setting.isSome then 7 else 0
    let n := min count (present - start)
    let answered : Nat → List Byte → Option Stream → State := fun status data stream =>
      { s with
        lc := { s.lc with rxQueue := rest }
        cu := { s.cu with current := replyWaiting s.lc.mode f status data false stream } }
    (f.payload.length < 5 ∨ table = 0 ∨ 4 < table → exec .dump s = .next (answered 4 [] none)) ∧
    (5 ≤ f.payload.length → 1 ≤ table → table ≤ 4 → s.cu.stream.isSome = true →
      exec .dump s = .next (answered 1 [] none)) ∧
    (5 ≤ f.payload.length → 1 ≤ table → table ≤ 4 → s.cu.stream = none → n = 0 →
      exec .dump s = .next (answered 0 [0] none)) ∧
    (5 ≤ f.payload.length → 1 ≤ table → table ≤ 4 → s.cu.stream = none → 0 < n →
      exec .dump s =
        .next
          (answered 0 [byteOf n]
            (some
              { requester := f.source, tag := f.payload.getD 1 0, table := table, next := start,
                stop := start + n, unheard := 0, final := false })))

/-- REPLY_ENQUEUE (R88, R90, R168, R176): a waiting reply takes a free shared place behind the entries of priority 0
and 1 and ahead of the others, its command is released, and the stream it announces begins; with no place free, in
Listen-only, or with a restart due nothing happens. That the command then changes nothing is log entry 3; the wait for
a due restart is log entry 25. -/
def Obligations.ReplyEntersQueue : Prop :=
  ∀ (s : State) (c : Current), s.acts → s.cu.current = some c →
    s.lc.txQueue.Pairwise (fun a b => a.priority ≤ b.priority) →
    let free := (s.lc.txQueue.filter fun e => e.kind != .beacon).length < 3
    let may := s.lc.mode ≠ .listenOnly ∧ free ∧ s.nc.restartDue = false ∧ s.nc.restart ≠ .inProgress
    (may →
      exec .replyEnqueue s =
        .next
          { s with
            lc :=
              { s.lc with
                txQueue :=
                  s.lc.txQueue.filter (fun e => decide (e.priority ≤ 1)) ++
                    .reply c.reply.dest c.reply.payload c.reply.restart ::
                      s.lc.txQueue.filter (fun e => decide (1 < e.priority)) }
            cu := { current := none, stream := c.reply.stream.or s.cu.stream } }) ∧
    (¬ may → exec .replyEnqueue s = .next s)

/-- STREAM_FRAME_BUILD (R90, R177, R181): the next frame carries tag, table, marker and position and the record as it
stands, marked last at the end position less 1; at or past the table's end it is marked ended short and carries no
record; it waits while a stream frame is queued, no shared place is free, or a reply waits. That the command then
changes nothing is log entry 3; the wait for a due restart is log entry 25.
The records are laid out as R181 gives for the four tables, and a table holds none at or past its end. -/
def Obligations.StreamFrameCarriesNextRecord : Prop :=
  (∀ (s : State) (c : Stream), s.acts → s.cu.stream = some c →
    let free := (s.lc.txQueue.filter fun e => e.kind != .beacon).length < 3
    let may := c.final = false ∧ s.lc.mode ≠ .listenOnly ∧ free ∧ s.cu.current = none ∧ s.nc.restartDue = false ∧
      s.nc.restart ≠ .inProgress ∧ ∀ e ∈ s.lc.txQueue, e.kind ≠ .stream
    (¬ may → exec .streamFrameBuild s = .next s) ∧
    (may → s.lc.txQueue.Pairwise (fun a b => a.priority ≤ b.priority) →
      ∃ t payload last, exec .streamFrameBuild s = .next t ∧
        t.lc =
          { s.lc with
            txQueue :=
              s.lc.txQueue.filter (fun e => decide (e.priority ≤ 2)) ++
                .stream c.requester payload last :: s.lc.txQueue.filter (fun e => decide (2 < e.priority)) } ∧
        t = { s with lc := t.lc, cu := { s.cu with stream := t.cu.stream } } ∧
        (∀ record, s.streamRecord c.table c.next = some record →
          last = decide (c.next + 1 = c.stop) ∧
          payload = [c.tag, byteOf (c.table * 32 + if last then 8 else 0), byteOf c.next] ++ record ∧
          t.cu.stream = some { c with next := c.next + 1, final := last }) ∧
        (s.streamRecord c.table c.next = none →
          last = true ∧ payload = [c.tag, byteOf (c.table * 32 + 16), byteOf c.next] ∧
          t.cu.stream = some { c with final := true }))) ∧
  (∀ s : State,
    (∀ i r, s.fr.log[i]? = some r → r.sound → ∃ b, s.streamRecord 1 i = some b ∧ recordShown r b) ∧
    (∀ i e, s.nt[i]? = some e → e.sound s.nc.strap.toNat →
      ∃ b, s.streamRecord 2 i = some b ∧ entryShown s e b) ∧
    (∀ k, (s.ca.slots.get k).fits → s.ca.budget < 65536 →
      ∃ b, s.streamRecord 3 (k.number - 1) = some b ∧ slotRecordShown k (s.ca.slots.get k) s.ca.budget b) ∧
    (∀ g, s.nc.setting = some g → g.fits →
      (∃ b, s.streamRecord 4 0 = some b ∧ settingShown g b) ∧
      ∀ k, ∃ b, s.streamRecord 4 k.number = some b ∧ slotSettingShown (g.slots.get k) b) ∧
    (∀ i, (s.fr.log.length ≤ i → s.streamRecord 1 i = none) ∧ (s.nt.length ≤ i → s.streamRecord 2 i = none) ∧
      (6 ≤ i → s.streamRecord 3 i = none) ∧ (s.nc.setting = none ∨ 7 ≤ i → s.streamRecord 4 i = none)))
end

