-- ==== Sys2Proof/Laws/Six.lean ====
section
/-! SUPPORT. The laws of the six slots' values: what is read after a write, and that two are equal when every slot's
value is. -/

namespace Sys2Proof

theorem Slot.mem_all (k : Slot) : k ∈ Slot.all := by cases k <;> decide

theorem Slot.all_iff (p : Slot → Bool) : Slot.all.all p = true ↔ ∀ k, p k = true := by
  constructor
  · intro h k
    exact List.all_eq_true.mp h k k.mem_all
  · intro h
    exact List.all_eq_true.mpr fun k _ => h k

namespace Six

variable {α β : Type}

@[simp] theorem get_tabulate (f : Slot → α) (k : Slot) : (tabulate f).get k = f k := by cases k <;> rfl

@[simp] theorem get_map (f : α → β) (v : Six α) (k : Slot) : (v.map f).get k = f (v.get k) := by cases k <;> rfl

theorem get_set (v : Six α) (j k : Slot) (x : α) : (v.set j x).get k = if k = j then x else v.get k := by
  cases j <;> cases k <;> rfl

@[simp] theorem get_set_same (v : Six α) (k : Slot) (x : α) : (v.set k x).get k = x := by cases k <;> rfl

theorem get_modify (v : Six α) (j k : Slot) (f : α → α) :
    (v.modify j f).get k = if k = j then f (v.get k) else v.get k := by
  cases j <;> cases k <;> rfl

@[simp] theorem get_modify_same (v : Six α) (k : Slot) (f : α → α) : (v.modify k f).get k = f (v.get k) := by
  cases k <;> rfl

/-- A field that a change of one slot's value keeps is kept at every slot. -/
theorem get_modify_field (v : Six α) (j k : Slot) (f : α → α) (p : α → β) (h : ∀ x, p (f x) = p x) :
    p ((v.modify j f).get k) = p (v.get k) := by
  rw [get_modify]; split
  · exact h _
  · rfl

theorem ext_get {v w : Six α} (h : ∀ k, v.get k = w.get k) : v = w := by
  cases v; cases w
  have h1 := h .s1; have h2 := h .s2; have h3 := h .s3; have h4 := h .s4; have h5 := h .s5; have h6 := h .s6
  simp only [get] at h1 h2 h3 h4 h5 h6
  subst h1 h2 h3 h4 h5 h6
  rfl

theorem any_iff (v : Six α) (p : α → Bool) : v.any p = true ↔ ∃ k, p (v.get k) = true := by
  constructor
  · intro h
    obtain ⟨x, hx, hp⟩ := List.any_eq_true.mp h
    simp only [toList, List.mem_cons, List.not_mem_nil, or_false] at hx
    rcases hx with rfl | rfl | rfl | rfl | rfl | rfl
    exacts [⟨.s1, hp⟩, ⟨.s2, hp⟩, ⟨.s3, hp⟩, ⟨.s4, hp⟩, ⟨.s5, hp⟩, ⟨.s6, hp⟩]
  · rintro ⟨k, hk⟩
    refine List.any_eq_true.mpr ⟨v.get k, ?_, hk⟩
    cases k <;> simp [toList, get]

end Six

end Sys2Proof
end

