-- ==== Sys2Proof/Laws/State.lean ====
section
/-! SUPPORT. What each named update of State leaves as it was, field by field, and what it writes. Every lemma holds by
rfl. -/

namespace Sys2Proof.Machine

variable (s : State)

@[simp] theorem reach_mi (d : Nat) : (s.reach d).mi = s.mi := rfl
@[simp] theorem reach_ca (d : Nat) : (s.reach d).ca = s.ca := rfl
@[simp] theorem reach_pm (d : Nat) : (s.reach d).pm = s.pm := rfl
@[simp] theorem reach_lc (d : Nat) : (s.reach d).lc = s.lc := rfl
@[simp] theorem reach_nt (d : Nat) : (s.reach d).nt = s.nt := rfl
@[simp] theorem reach_su (d : Nat) : (s.reach d).su = s.su := rfl
@[simp] theorem reach_fr (d : Nat) : (s.reach d).fr = s.fr := rfl
@[simp] theorem reach_nc (d : Nat) : (s.reach d).nc = s.nc := rfl
@[simp] theorem reach_cu (d : Nat) : (s.reach d).cu = s.cu := rfl
@[simp] theorem reach_pending (d : Nat) : (s.reach d).pending = s.pending := rfl

@[simp] theorem raiseRecord_now (k : Key) (r : Option (Int × Int)) : (raiseRecord k r s).now = s.now := rfl
@[simp] theorem raiseRecord_mi (k : Key) (r : Option (Int × Int)) : (raiseRecord k r s).mi = s.mi := rfl
@[simp] theorem raiseRecord_ca (k : Key) (r : Option (Int × Int)) : (raiseRecord k r s).ca = s.ca := rfl
@[simp] theorem raiseRecord_pm (k : Key) (r : Option (Int × Int)) : (raiseRecord k r s).pm = s.pm := rfl
@[simp] theorem raiseRecord_lc (k : Key) (r : Option (Int × Int)) : (raiseRecord k r s).lc = s.lc := rfl
@[simp] theorem raiseRecord_nt (k : Key) (r : Option (Int × Int)) : (raiseRecord k r s).nt = s.nt := rfl
@[simp] theorem raiseRecord_su (k : Key) (r : Option (Int × Int)) : (raiseRecord k r s).su = s.su := rfl
@[simp] theorem raiseRecord_nc (k : Key) (r : Option (Int × Int)) : (raiseRecord k r s).nc = s.nc := rfl
@[simp] theorem raiseRecord_cu (k : Key) (r : Option (Int × Int)) : (raiseRecord k r s).cu = s.cu := rfl
@[simp] theorem raiseRecord_pending (k : Key) (r : Option (Int × Int)) : (raiseRecord k r s).pending = s.pending := rfl

@[simp] theorem clearRecord_now (k : Key) : (clearRecord k s).now = s.now := rfl
@[simp] theorem clearRecord_mi (k : Key) : (clearRecord k s).mi = s.mi := rfl
@[simp] theorem clearRecord_ca (k : Key) : (clearRecord k s).ca = s.ca := rfl
@[simp] theorem clearRecord_pm (k : Key) : (clearRecord k s).pm = s.pm := rfl
@[simp] theorem clearRecord_lc (k : Key) : (clearRecord k s).lc = s.lc := rfl
@[simp] theorem clearRecord_nt (k : Key) : (clearRecord k s).nt = s.nt := rfl
@[simp] theorem clearRecord_su (k : Key) : (clearRecord k s).su = s.su := rfl
@[simp] theorem clearRecord_nc (k : Key) : (clearRecord k s).nc = s.nc := rfl
@[simp] theorem clearRecord_cu (k : Key) : (clearRecord k s).cu = s.cu := rfl
@[simp] theorem clearRecord_pending (k : Key) : (clearRecord k s).pending = s.pending := rfl

@[simp] theorem recomputeBudget_now : (recomputeBudget s).now = s.now := rfl
@[simp] theorem recomputeBudget_mi : (recomputeBudget s).mi = s.mi := rfl
@[simp] theorem recomputeBudget_pm : (recomputeBudget s).pm = s.pm := rfl
@[simp] theorem recomputeBudget_lc : (recomputeBudget s).lc = s.lc := rfl
@[simp] theorem recomputeBudget_nt : (recomputeBudget s).nt = s.nt := rfl
@[simp] theorem recomputeBudget_su : (recomputeBudget s).su = s.su := rfl
@[simp] theorem recomputeBudget_fr : (recomputeBudget s).fr = s.fr := rfl
@[simp] theorem recomputeBudget_nc : (recomputeBudget s).nc = s.nc := rfl
@[simp] theorem recomputeBudget_cu : (recomputeBudget s).cu = s.cu := rfl
@[simp] theorem recomputeBudget_pending : (recomputeBudget s).pending = s.pending := rfl

@[simp] theorem zeroTrims_now : (zeroTrims s).now = s.now := rfl
@[simp] theorem zeroTrims_mi : (zeroTrims s).mi = s.mi := rfl
@[simp] theorem zeroTrims_pm : (zeroTrims s).pm = s.pm := rfl
@[simp] theorem zeroTrims_lc : (zeroTrims s).lc = s.lc := rfl
@[simp] theorem zeroTrims_nt : (zeroTrims s).nt = s.nt := rfl
@[simp] theorem zeroTrims_su : (zeroTrims s).su = s.su := rfl
@[simp] theorem zeroTrims_fr : (zeroTrims s).fr = s.fr := rfl
@[simp] theorem zeroTrims_nc : (zeroTrims s).nc = s.nc := rfl
@[simp] theorem zeroTrims_cu : (zeroTrims s).cu = s.cu := rfl
@[simp] theorem zeroTrims_pending : (zeroTrims s).pending = s.pending := rfl

@[simp] theorem abandonRound_now : (abandonRound s).now = s.now := rfl
@[simp] theorem abandonRound_mi : (abandonRound s).mi = s.mi := rfl
@[simp] theorem abandonRound_ca : (abandonRound s).ca = s.ca := rfl
@[simp] theorem abandonRound_pm : (abandonRound s).pm = s.pm := rfl
@[simp] theorem abandonRound_lc : (abandonRound s).lc = s.lc := rfl
@[simp] theorem abandonRound_nt : (abandonRound s).nt = s.nt := rfl
@[simp] theorem abandonRound_fr : (abandonRound s).fr = s.fr := rfl
@[simp] theorem abandonRound_nc : (abandonRound s).nc = s.nc := rfl
@[simp] theorem abandonRound_cu : (abandonRound s).cu = s.cu := rfl
@[simp] theorem abandonRound_pending : (abandonRound s).pending = s.pending := rfl

@[simp] theorem startSampleTimer_now : (startSampleTimer s).now = s.now := rfl
@[simp] theorem startSampleTimer_ca : (startSampleTimer s).ca = s.ca := rfl
@[simp] theorem startSampleTimer_pm : (startSampleTimer s).pm = s.pm := rfl
@[simp] theorem startSampleTimer_lc : (startSampleTimer s).lc = s.lc := rfl
@[simp] theorem startSampleTimer_nt : (startSampleTimer s).nt = s.nt := rfl
@[simp] theorem startSampleTimer_su : (startSampleTimer s).su = s.su := rfl
@[simp] theorem startSampleTimer_fr : (startSampleTimer s).fr = s.fr := rfl
@[simp] theorem startSampleTimer_nc : (startSampleTimer s).nc = s.nc := rfl
@[simp] theorem startSampleTimer_cu : (startSampleTimer s).cu = s.cu := rfl
@[simp] theorem startSampleTimer_pending : (startSampleTimer s).pending = s.pending := rfl

@[simp] theorem startBeaconTimer_now (p : Nat) : (startBeaconTimer p s).now = s.now := rfl
@[simp] theorem startBeaconTimer_mi (p : Nat) : (startBeaconTimer p s).mi = s.mi := rfl
@[simp] theorem startBeaconTimer_ca (p : Nat) : (startBeaconTimer p s).ca = s.ca := rfl
@[simp] theorem startBeaconTimer_pm (p : Nat) : (startBeaconTimer p s).pm = s.pm := rfl
@[simp] theorem startBeaconTimer_nt (p : Nat) : (startBeaconTimer p s).nt = s.nt := rfl
@[simp] theorem startBeaconTimer_su (p : Nat) : (startBeaconTimer p s).su = s.su := rfl
@[simp] theorem startBeaconTimer_fr (p : Nat) : (startBeaconTimer p s).fr = s.fr := rfl
@[simp] theorem startBeaconTimer_nc (p : Nat) : (startBeaconTimer p s).nc = s.nc := rfl
@[simp] theorem startBeaconTimer_cu (p : Nat) : (startBeaconTimer p s).cu = s.cu := rfl
@[simp] theorem startBeaconTimer_pending (p : Nat) : (startBeaconTimer p s).pending = s.pending := rfl

@[simp] theorem unloadImage_now : (unloadImage s).now = s.now := rfl
@[simp] theorem unloadImage_mi : (unloadImage s).mi = s.mi := rfl
@[simp] theorem unloadImage_pm : (unloadImage s).pm = s.pm := rfl
@[simp] theorem unloadImage_lc : (unloadImage s).lc = s.lc := rfl
@[simp] theorem unloadImage_nt : (unloadImage s).nt = s.nt := rfl
@[simp] theorem unloadImage_su : (unloadImage s).su = s.su := rfl
@[simp] theorem unloadImage_cu : (unloadImage s).cu = s.cu := rfl
@[simp] theorem unloadImage_pending : (unloadImage s).pending = s.pending := rfl

@[simp] theorem loadImage_now (g : Setting) : (loadImage g s).now = s.now := rfl
@[simp] theorem loadImage_mi (g : Setting) : (loadImage g s).mi = s.mi := rfl
@[simp] theorem loadImage_pm (g : Setting) : (loadImage g s).pm = s.pm := rfl
@[simp] theorem loadImage_lc (g : Setting) : (loadImage g s).lc = s.lc := rfl
@[simp] theorem loadImage_nt (g : Setting) : (loadImage g s).nt = s.nt := rfl
@[simp] theorem loadImage_su (g : Setting) : (loadImage g s).su = s.su := rfl
@[simp] theorem loadImage_cu (g : Setting) : (loadImage g s).cu = s.cu := rfl
@[simp] theorem loadImage_pending (g : Setting) : (loadImage g s).pending = s.pending := rfl

@[simp] theorem beginLine_now (r : BitRate) (m : LineMode) : (beginLine r m s).now = s.now := rfl
@[simp] theorem beginLine_mi (r : BitRate) (m : LineMode) : (beginLine r m s).mi = s.mi := rfl
@[simp] theorem beginLine_ca (r : BitRate) (m : LineMode) : (beginLine r m s).ca = s.ca := rfl
@[simp] theorem beginLine_pm (r : BitRate) (m : LineMode) : (beginLine r m s).pm = s.pm := rfl
@[simp] theorem beginLine_nt (r : BitRate) (m : LineMode) : (beginLine r m s).nt = s.nt := rfl
@[simp] theorem beginLine_su (r : BitRate) (m : LineMode) : (beginLine r m s).su = s.su := rfl
@[simp] theorem beginLine_fr (r : BitRate) (m : LineMode) : (beginLine r m s).fr = s.fr := rfl
@[simp] theorem beginLine_nc (r : BitRate) (m : LineMode) : (beginLine r m s).nc = s.nc := rfl
@[simp] theorem beginLine_cu (r : BitRate) (m : LineMode) : (beginLine r m s).cu = s.cu := rfl
@[simp] theorem beginLine_pending (r : BitRate) (m : LineMode) : (beginLine r m s).pending = s.pending := rfl

@[simp] theorem allot_now : (allot s).now = s.now := rfl
@[simp] theorem allot_mi : (allot s).mi = s.mi := rfl
@[simp] theorem allot_lc : (allot s).lc = s.lc := rfl
@[simp] theorem allot_nt : (allot s).nt = s.nt := rfl
@[simp] theorem allot_su : (allot s).su = s.su := rfl
@[simp] theorem allot_fr : (allot s).fr = s.fr := rfl
@[simp] theorem allot_nc : (allot s).nc = s.nc := rfl
@[simp] theorem allot_cu : (allot s).cu = s.cu := rfl
@[simp] theorem allot_pending : (allot s).pending = s.pending := rfl

@[simp] theorem setFilter_now (k : Slot) (n : Nat) : (setFilter k n s).now = s.now := rfl
@[simp] theorem setFilter_mi (k : Slot) (n : Nat) : (setFilter k n s).mi = s.mi := rfl
@[simp] theorem setFilter_ca (k : Slot) (n : Nat) : (setFilter k n s).ca = s.ca := rfl
@[simp] theorem setFilter_lc (k : Slot) (n : Nat) : (setFilter k n s).lc = s.lc := rfl
@[simp] theorem setFilter_nt (k : Slot) (n : Nat) : (setFilter k n s).nt = s.nt := rfl
@[simp] theorem setFilter_su (k : Slot) (n : Nat) : (setFilter k n s).su = s.su := rfl
@[simp] theorem setFilter_fr (k : Slot) (n : Nat) : (setFilter k n s).fr = s.fr := rfl
@[simp] theorem setFilter_nc (k : Slot) (n : Nat) : (setFilter k n s).nc = s.nc := rfl
@[simp] theorem setFilter_cu (k : Slot) (n : Nat) : (setFilter k n s).cu = s.cu := rfl
@[simp] theorem setFilter_pending (k : Slot) (n : Nat) : (setFilter k n s).pending = s.pending := rfl

@[simp] theorem setAntFilter_now (n : Nat) : (setAntFilter n s).now = s.now := rfl
@[simp] theorem setAntFilter_mi (n : Nat) : (setAntFilter n s).mi = s.mi := rfl
@[simp] theorem setAntFilter_ca (n : Nat) : (setAntFilter n s).ca = s.ca := rfl
@[simp] theorem setAntFilter_lc (n : Nat) : (setAntFilter n s).lc = s.lc := rfl
@[simp] theorem setAntFilter_nt (n : Nat) : (setAntFilter n s).nt = s.nt := rfl
@[simp] theorem setAntFilter_su (n : Nat) : (setAntFilter n s).su = s.su := rfl
@[simp] theorem setAntFilter_fr (n : Nat) : (setAntFilter n s).fr = s.fr := rfl
@[simp] theorem setAntFilter_nc (n : Nat) : (setAntFilter n s).nc = s.nc := rfl
@[simp] theorem setAntFilter_cu (n : Nat) : (setAntFilter n s).cu = s.cu := rfl
@[simp] theorem setAntFilter_pending (n : Nat) : (setAntFilter n s).pending = s.pending := rfl

@[simp] theorem clearFilters_now : (clearFilters s).now = s.now := rfl
@[simp] theorem clearFilters_mi : (clearFilters s).mi = s.mi := rfl
@[simp] theorem clearFilters_ca : (clearFilters s).ca = s.ca := rfl
@[simp] theorem clearFilters_lc : (clearFilters s).lc = s.lc := rfl
@[simp] theorem clearFilters_nt : (clearFilters s).nt = s.nt := rfl
@[simp] theorem clearFilters_su : (clearFilters s).su = s.su := rfl
@[simp] theorem clearFilters_fr : (clearFilters s).fr = s.fr := rfl
@[simp] theorem clearFilters_nc : (clearFilters s).nc = s.nc := rfl
@[simp] theorem clearFilters_cu : (clearFilters s).cu = s.cu := rfl
@[simp] theorem clearFilters_pending : (clearFilters s).pending = s.pending := rfl

@[simp] theorem clearSettled_now (a : State) : (clearSettled a s).now = s.now := rfl
@[simp] theorem clearSettled_mi (a : State) : (clearSettled a s).mi = s.mi := rfl
@[simp] theorem clearSettled_ca (a : State) : (clearSettled a s).ca = s.ca := rfl
@[simp] theorem clearSettled_lc (a : State) : (clearSettled a s).lc = s.lc := rfl
@[simp] theorem clearSettled_nt (a : State) : (clearSettled a s).nt = s.nt := rfl
@[simp] theorem clearSettled_su (a : State) : (clearSettled a s).su = s.su := rfl
@[simp] theorem clearSettled_fr (a : State) : (clearSettled a s).fr = s.fr := rfl
@[simp] theorem clearSettled_nc (a : State) : (clearSettled a s).nc = s.nc := rfl
@[simp] theorem clearSettled_cu (a : State) : (clearSettled a s).cu = s.cu := rfl
@[simp] theorem clearSettled_pending (a : State) : (clearSettled a s).pending = s.pending := rfl

@[simp] theorem updateLoads_now (g : Setting) (m : MeasFrame) : (updateLoads g m s).now = s.now := rfl
@[simp] theorem updateLoads_mi (g : Setting) (m : MeasFrame) : (updateLoads g m s).mi = s.mi := rfl
@[simp] theorem updateLoads_pm (g : Setting) (m : MeasFrame) : (updateLoads g m s).pm = s.pm := rfl
@[simp] theorem updateLoads_lc (g : Setting) (m : MeasFrame) : (updateLoads g m s).lc = s.lc := rfl
@[simp] theorem updateLoads_nt (g : Setting) (m : MeasFrame) : (updateLoads g m s).nt = s.nt := rfl
@[simp] theorem updateLoads_su (g : Setting) (m : MeasFrame) : (updateLoads g m s).su = s.su := rfl
@[simp] theorem updateLoads_nc (g : Setting) (m : MeasFrame) : (updateLoads g m s).nc = s.nc := rfl
@[simp] theorem updateLoads_cu (g : Setting) (m : MeasFrame) : (updateLoads g m s).cu = s.cu := rfl
@[simp] theorem updateLoads_pending (g : Setting) (m : MeasFrame) : (updateLoads g m s).pending = s.pending := rfl

@[simp] theorem startCoolDown_now (n : Nat) : (startCoolDown n s).now = s.now := rfl
@[simp] theorem startCoolDown_mi (n : Nat) : (startCoolDown n s).mi = s.mi := rfl
@[simp] theorem startCoolDown_ca (n : Nat) : (startCoolDown n s).ca = s.ca := rfl
@[simp] theorem startCoolDown_pm (n : Nat) : (startCoolDown n s).pm = s.pm := rfl
@[simp] theorem startCoolDown_nt (n : Nat) : (startCoolDown n s).nt = s.nt := rfl
@[simp] theorem startCoolDown_su (n : Nat) : (startCoolDown n s).su = s.su := rfl
@[simp] theorem startCoolDown_fr (n : Nat) : (startCoolDown n s).fr = s.fr := rfl
@[simp] theorem startCoolDown_nc (n : Nat) : (startCoolDown n s).nc = s.nc := rfl
@[simp] theorem startCoolDown_cu (n : Nat) : (startCoolDown n s).cu = s.cu := rfl
@[simp] theorem startCoolDown_pending (n : Nat) : (startCoolDown n s).pending = s.pending := rfl

@[simp] theorem setMode_now (m : LineMode) : (setMode m s).now = s.now := rfl
@[simp] theorem setMode_mi (m : LineMode) : (setMode m s).mi = s.mi := rfl
@[simp] theorem setMode_ca (m : LineMode) : (setMode m s).ca = s.ca := rfl
@[simp] theorem setMode_pm (m : LineMode) : (setMode m s).pm = s.pm := rfl
@[simp] theorem setMode_nt (m : LineMode) : (setMode m s).nt = s.nt := rfl
@[simp] theorem setMode_su (m : LineMode) : (setMode m s).su = s.su := rfl
@[simp] theorem setMode_fr (m : LineMode) : (setMode m s).fr = s.fr := rfl
@[simp] theorem setMode_nc (m : LineMode) : (setMode m s).nc = s.nc := rfl
@[simp] theorem setMode_cu (m : LineMode) : (setMode m s).cu = s.cu := rfl
@[simp] theorem setMode_pending (m : LineMode) : (setMode m s).pending = s.pending := rfl

@[simp] theorem countIdle_now (n : Nat) : (countIdle n s).now = s.now := rfl
@[simp] theorem countIdle_mi (n : Nat) : (countIdle n s).mi = s.mi := rfl
@[simp] theorem countIdle_ca (n : Nat) : (countIdle n s).ca = s.ca := rfl
@[simp] theorem countIdle_pm (n : Nat) : (countIdle n s).pm = s.pm := rfl
@[simp] theorem countIdle_nt (n : Nat) : (countIdle n s).nt = s.nt := rfl
@[simp] theorem countIdle_su (n : Nat) : (countIdle n s).su = s.su := rfl
@[simp] theorem countIdle_fr (n : Nat) : (countIdle n s).fr = s.fr := rfl
@[simp] theorem countIdle_nc (n : Nat) : (countIdle n s).nc = s.nc := rfl
@[simp] theorem countIdle_cu (n : Nat) : (countIdle n s).cu = s.cu := rfl
@[simp] theorem countIdle_pending (n : Nat) : (countIdle n s).pending = s.pending := rfl

@[simp] theorem startFrame_now (e : TxEntry) : (startFrame e s).now = s.now := rfl
@[simp] theorem startFrame_mi (e : TxEntry) : (startFrame e s).mi = s.mi := rfl
@[simp] theorem startFrame_ca (e : TxEntry) : (startFrame e s).ca = s.ca := rfl
@[simp] theorem startFrame_pm (e : TxEntry) : (startFrame e s).pm = s.pm := rfl
@[simp] theorem startFrame_nt (e : TxEntry) : (startFrame e s).nt = s.nt := rfl
@[simp] theorem startFrame_su (e : TxEntry) : (startFrame e s).su = s.su := rfl
@[simp] theorem startFrame_fr (e : TxEntry) : (startFrame e s).fr = s.fr := rfl
@[simp] theorem startFrame_nc (e : TxEntry) : (startFrame e s).nc = s.nc := rfl
@[simp] theorem startFrame_cu (e : TxEntry) : (startFrame e s).cu = s.cu := rfl
@[simp] theorem startFrame_pending (e : TxEntry) : (startFrame e s).pending = s.pending := rfl

@[simp] theorem startBreak_now : (startBreak s).now = s.now := rfl
@[simp] theorem startBreak_mi : (startBreak s).mi = s.mi := rfl
@[simp] theorem startBreak_ca : (startBreak s).ca = s.ca := rfl
@[simp] theorem startBreak_pm : (startBreak s).pm = s.pm := rfl
@[simp] theorem startBreak_nt : (startBreak s).nt = s.nt := rfl
@[simp] theorem startBreak_su : (startBreak s).su = s.su := rfl
@[simp] theorem startBreak_fr : (startBreak s).fr = s.fr := rfl
@[simp] theorem startBreak_nc : (startBreak s).nc = s.nc := rfl
@[simp] theorem startBreak_cu : (startBreak s).cu = s.cu := rfl
@[simp] theorem startBreak_pending : (startBreak s).pending = s.pending := rfl

@[simp] theorem frameEnds_now (h : Bool) : (frameEnds h s).now = s.now := rfl
@[simp] theorem frameEnds_mi (h : Bool) : (frameEnds h s).mi = s.mi := rfl
@[simp] theorem frameEnds_ca (h : Bool) : (frameEnds h s).ca = s.ca := rfl
@[simp] theorem frameEnds_pm (h : Bool) : (frameEnds h s).pm = s.pm := rfl
@[simp] theorem frameEnds_nt (h : Bool) : (frameEnds h s).nt = s.nt := rfl
@[simp] theorem frameEnds_su (h : Bool) : (frameEnds h s).su = s.su := rfl
@[simp] theorem frameEnds_fr (h : Bool) : (frameEnds h s).fr = s.fr := rfl
@[simp] theorem frameEnds_nc (h : Bool) : (frameEnds h s).nc = s.nc := rfl
@[simp] theorem frameEnds_cu (h : Bool) : (frameEnds h s).cu = s.cu := rfl
@[simp] theorem frameEnds_pending (h : Bool) : (frameEnds h s).pending = s.pending := rfl

@[simp] theorem setPhase_now (p : TxPhase) : (setPhase p s).now = s.now := rfl
@[simp] theorem setPhase_mi (p : TxPhase) : (setPhase p s).mi = s.mi := rfl
@[simp] theorem setPhase_ca (p : TxPhase) : (setPhase p s).ca = s.ca := rfl
@[simp] theorem setPhase_pm (p : TxPhase) : (setPhase p s).pm = s.pm := rfl
@[simp] theorem setPhase_nt (p : TxPhase) : (setPhase p s).nt = s.nt := rfl
@[simp] theorem setPhase_su (p : TxPhase) : (setPhase p s).su = s.su := rfl
@[simp] theorem setPhase_fr (p : TxPhase) : (setPhase p s).fr = s.fr := rfl
@[simp] theorem setPhase_nc (p : TxPhase) : (setPhase p s).nc = s.nc := rfl
@[simp] theorem setPhase_cu (p : TxPhase) : (setPhase p s).cu = s.cu := rfl
@[simp] theorem setPhase_pending (p : TxPhase) : (setPhase p s).pending = s.pending := rfl

@[simp] theorem takeFollowUp_now : (takeFollowUp s).now = s.now := rfl
@[simp] theorem takeFollowUp_mi : (takeFollowUp s).mi = s.mi := rfl
@[simp] theorem takeFollowUp_ca : (takeFollowUp s).ca = s.ca := rfl
@[simp] theorem takeFollowUp_pm : (takeFollowUp s).pm = s.pm := rfl
@[simp] theorem takeFollowUp_nt : (takeFollowUp s).nt = s.nt := rfl
@[simp] theorem takeFollowUp_su : (takeFollowUp s).su = s.su := rfl
@[simp] theorem takeFollowUp_fr : (takeFollowUp s).fr = s.fr := rfl
@[simp] theorem takeFollowUp_nc : (takeFollowUp s).nc = s.nc := rfl
@[simp] theorem takeFollowUp_cu : (takeFollowUp s).cu = s.cu := rfl
@[simp] theorem takeFollowUp_pending : (takeFollowUp s).pending = s.pending := rfl

@[simp] theorem countClean_now : (countClean s).now = s.now := rfl
@[simp] theorem countClean_mi : (countClean s).mi = s.mi := rfl
@[simp] theorem countClean_ca : (countClean s).ca = s.ca := rfl
@[simp] theorem countClean_pm : (countClean s).pm = s.pm := rfl
@[simp] theorem countClean_nt : (countClean s).nt = s.nt := rfl
@[simp] theorem countClean_su : (countClean s).su = s.su := rfl
@[simp] theorem countClean_fr : (countClean s).fr = s.fr := rfl
@[simp] theorem countClean_nc : (countClean s).nc = s.nc := rfl
@[simp] theorem countClean_cu : (countClean s).cu = s.cu := rfl
@[simp] theorem countClean_pending : (countClean s).pending = s.pending := rfl

@[simp] theorem countError_now : (countError s).now = s.now := rfl
@[simp] theorem countError_mi : (countError s).mi = s.mi := rfl
@[simp] theorem countError_ca : (countError s).ca = s.ca := rfl
@[simp] theorem countError_pm : (countError s).pm = s.pm := rfl
@[simp] theorem countError_nt : (countError s).nt = s.nt := rfl
@[simp] theorem countError_su : (countError s).su = s.su := rfl
@[simp] theorem countError_fr : (countError s).fr = s.fr := rfl
@[simp] theorem countError_nc : (countError s).nc = s.nc := rfl
@[simp] theorem countError_cu : (countError s).cu = s.cu := rfl
@[simp] theorem countError_pending : (countError s).pending = s.pending := rfl

@[simp] theorem driveBits_now (a h : Bool) : (driveBits a h s).now = s.now := rfl
@[simp] theorem driveBits_mi (a h : Bool) : (driveBits a h s).mi = s.mi := rfl
@[simp] theorem driveBits_ca (a h : Bool) : (driveBits a h s).ca = s.ca := rfl
@[simp] theorem driveBits_pm (a h : Bool) : (driveBits a h s).pm = s.pm := rfl
@[simp] theorem driveBits_nt (a h : Bool) : (driveBits a h s).nt = s.nt := rfl
@[simp] theorem driveBits_su (a h : Bool) : (driveBits a h s).su = s.su := rfl
@[simp] theorem driveBits_fr (a h : Bool) : (driveBits a h s).fr = s.fr := rfl
@[simp] theorem driveBits_nc (a h : Bool) : (driveBits a h s).nc = s.nc := rfl
@[simp] theorem driveBits_cu (a h : Bool) : (driveBits a h s).cu = s.cu := rfl
@[simp] theorem driveBits_pending (a h : Bool) : (driveBits a h s).pending = s.pending := rfl

@[simp] theorem dropHead_now : (dropHead s).now = s.now := rfl
@[simp] theorem dropHead_mi : (dropHead s).mi = s.mi := rfl
@[simp] theorem dropHead_ca : (dropHead s).ca = s.ca := rfl
@[simp] theorem dropHead_pm : (dropHead s).pm = s.pm := rfl
@[simp] theorem dropHead_nt : (dropHead s).nt = s.nt := rfl
@[simp] theorem dropHead_su : (dropHead s).su = s.su := rfl
@[simp] theorem dropHead_fr : (dropHead s).fr = s.fr := rfl
@[simp] theorem dropHead_nc : (dropHead s).nc = s.nc := rfl
@[simp] theorem dropHead_cu : (dropHead s).cu = s.cu := rfl
@[simp] theorem dropHead_pending : (dropHead s).pending = s.pending := rfl

@[simp] theorem probeSucceeded_now : (probeSucceeded s).now = s.now := rfl
@[simp] theorem probeSucceeded_mi : (probeSucceeded s).mi = s.mi := rfl
@[simp] theorem probeSucceeded_ca : (probeSucceeded s).ca = s.ca := rfl
@[simp] theorem probeSucceeded_pm : (probeSucceeded s).pm = s.pm := rfl
@[simp] theorem probeSucceeded_nt : (probeSucceeded s).nt = s.nt := rfl
@[simp] theorem probeSucceeded_su : (probeSucceeded s).su = s.su := rfl
@[simp] theorem probeSucceeded_nc : (probeSucceeded s).nc = s.nc := rfl
@[simp] theorem probeSucceeded_cu : (probeSucceeded s).cu = s.cu := rfl
@[simp] theorem probeSucceeded_pending : (probeSucceeded s).pending = s.pending := rfl

@[simp] theorem restartOver_now : (restartOver s).now = s.now := rfl
@[simp] theorem restartOver_mi : (restartOver s).mi = s.mi := rfl
@[simp] theorem restartOver_ca : (restartOver s).ca = s.ca := rfl
@[simp] theorem restartOver_pm : (restartOver s).pm = s.pm := rfl
@[simp] theorem restartOver_lc : (restartOver s).lc = s.lc := rfl
@[simp] theorem restartOver_nt : (restartOver s).nt = s.nt := rfl
@[simp] theorem restartOver_su : (restartOver s).su = s.su := rfl
@[simp] theorem restartOver_fr : (restartOver s).fr = s.fr := rfl
@[simp] theorem restartOver_cu : (restartOver s).cu = s.cu := rfl
@[simp] theorem restartOver_pending : (restartOver s).pending = s.pending := rfl

@[simp] theorem startImageRead_now : (startImageRead s).now = s.now := rfl
@[simp] theorem startImageRead_mi : (startImageRead s).mi = s.mi := rfl
@[simp] theorem startImageRead_ca : (startImageRead s).ca = s.ca := rfl
@[simp] theorem startImageRead_pm : (startImageRead s).pm = s.pm := rfl
@[simp] theorem startImageRead_lc : (startImageRead s).lc = s.lc := rfl
@[simp] theorem startImageRead_nt : (startImageRead s).nt = s.nt := rfl
@[simp] theorem startImageRead_su : (startImageRead s).su = s.su := rfl
@[simp] theorem startImageRead_fr : (startImageRead s).fr = s.fr := rfl
@[simp] theorem startImageRead_cu : (startImageRead s).cu = s.cu := rfl
@[simp] theorem startImageRead_pending : (startImageRead s).pending = s.pending := rfl

@[simp] theorem enqueueReply_now (c : Current) : (enqueueReply c s).now = s.now := rfl
@[simp] theorem enqueueReply_mi (c : Current) : (enqueueReply c s).mi = s.mi := rfl
@[simp] theorem enqueueReply_ca (c : Current) : (enqueueReply c s).ca = s.ca := rfl
@[simp] theorem enqueueReply_pm (c : Current) : (enqueueReply c s).pm = s.pm := rfl
@[simp] theorem enqueueReply_nt (c : Current) : (enqueueReply c s).nt = s.nt := rfl
@[simp] theorem enqueueReply_su (c : Current) : (enqueueReply c s).su = s.su := rfl
@[simp] theorem enqueueReply_fr (c : Current) : (enqueueReply c s).fr = s.fr := rfl
@[simp] theorem enqueueReply_nc (c : Current) : (enqueueReply c s).nc = s.nc := rfl
@[simp] theorem enqueueReply_pending (c : Current) : (enqueueReply c s).pending = s.pending := rfl

@[simp] theorem reach_now (d : Nat) : (s.reach d).now = max s.now d := rfl
@[simp] theorem raiseRecord_fr (k : Key) (r : Option (Int × Int)) :
    (raiseRecord k r s).fr = s.fr.raise s.now k r := rfl
@[simp] theorem clearRecord_fr (k : Key) : (clearRecord k s).fr = s.fr.clear s.now k := rfl
@[simp] theorem recomputeBudget_budget : (recomputeBudget s).ca.budget = budgetOf s.bCfg s.mi.derate := rfl
@[simp] theorem recomputeBudget_slots : (recomputeBudget s).ca.slots = s.ca.slots := rfl
@[simp] theorem abandonRound_su : (abandonRound s).su = { roundTimer := .stopped, round := none } := rfl
@[simp] theorem setMode_lc (m : LineMode) : (setMode m s).lc = { s.lc with mode := m } := rfl
@[simp] theorem setPhase_lc (p : TxPhase) : (setPhase p s).lc = { s.lc with phase := p } := rfl
@[simp] theorem countIdle_lc (n : Nat) : (countIdle n s).lc = { s.lc with idleCount := n } := rfl
@[simp] theorem frameEnds_lc (h : Bool) :
    (frameEnds h s).lc = { s.lc with idleNeed := gapAfter h, idleCount := 0 } := rfl
@[simp] theorem driveBits_lc (a h : Bool) :
    (driveBits a h s).lc = { s.lc with ackDriven := a, holdDriven := h } := rfl
@[simp] theorem dropHead_lc : (dropHead s).lc = { s.lc with rxQueue := s.lc.rxQueue.tail } := rfl
@[simp] theorem takeFollowUp_lc : (takeFollowUp s).lc = s.lc.takeFollowUp := rfl
@[simp] theorem countClean_lc : (countClean s).lc = { s.lc with txErrors := s.lc.txErrors - 1 } := rfl
@[simp] theorem countError_lc : (countError s).lc = { s.lc with txErrors := min 8 (s.lc.txErrors + 1) } := rfl
@[simp] theorem restartOver_nc : (restartOver s).nc = { s.nc with restart := .none, restartDue := false } := rfl
@[simp] theorem startImageRead_nc : (startImageRead s).nc = { s.nc with reading := some s.now } := rfl
@[simp] theorem loadImage_setting (g : Setting) : (loadImage g s).nc = { s.nc with setting := some g } := rfl
@[simp] theorem unloadImage_setting : (unloadImage s).nc = { s.nc with setting := none } := rfl
@[simp] theorem allot_budget : (allot s).ca.budget = s.ca.budget := rfl
@[simp] theorem startSampleTimer_mi :
    (startSampleTimer s).mi =
      { s.mi with
        sampleTimer := .running (s.now + (s.nc.setting.map Setting.tSample).getD 0 * 1000) } := rfl
@[simp] theorem startBeaconTimer_lc (p : Nat) :
    (startBeaconTimer p s).lc = { s.lc with beaconPeriod := some p, beaconTimer := s.timerFor (p * 500) } := rfl

@[simp] theorem startLevel_slots (ca : Allocator) (f : Option LevelFrame) : (ca.startLevel f).slots = ca.slots := rfl
@[simp] theorem startLevel_budget (ca : Allocator) (f : Option LevelFrame) : (ca.startLevel f).budget = ca.budget := rfl
@[simp] theorem startLevel_levelQueue (ca : Allocator) (f : Option LevelFrame) :
    (ca.startLevel f).levelQueue = ca.levelQueue := rfl
@[simp] theorem startLevel_levelSending (ca : Allocator) (f : Option LevelFrame) :
    (ca.startLevel f).levelSending = f := rfl
@[simp] theorem startLevel_levelBits (ca : Allocator) (f : Option LevelFrame) :
    (ca.startLevel f).levelBits = (f.map LevelFrame.bits).getD [] := rfl

end Sys2Proof.Machine
end

