-- ==== Sys2Proof/Laws/Frames.lean ====
section
/-! SUPPORT. What the shared operations and the parts of the meanings leave as it was: block by block, and, of the Line
Controller, field by field. -/

namespace Sys2Proof.Machine

variable (s : State)

@[simp] theorem alarm_now : (alarm s).now = s.now := by
  unfold alarm; split_ifs <;> rfl
@[simp] theorem alarm_mi : (alarm s).mi = s.mi := by
  unfold alarm; split_ifs <;> rfl
@[simp] theorem alarm_ca : (alarm s).ca = s.ca := by
  unfold alarm; split_ifs <;> rfl
@[simp] theorem alarm_pm : (alarm s).pm = s.pm := by
  unfold alarm; split_ifs <;> rfl
@[simp] theorem alarm_nt : (alarm s).nt = s.nt := by
  unfold alarm; split_ifs <;> rfl
@[simp] theorem alarm_su : (alarm s).su = s.su := by
  unfold alarm; split_ifs <;> rfl
@[simp] theorem alarm_fr : (alarm s).fr = s.fr := by
  unfold alarm; split_ifs <;> rfl
@[simp] theorem alarm_nc : (alarm s).nc = s.nc := by
  unfold alarm; split_ifs <;> rfl
@[simp] theorem alarm_cu : (alarm s).cu = s.cu := by
  unfold alarm; split_ifs <;> rfl
@[simp] theorem alarm_pending : (alarm s).pending = s.pending := by
  unfold alarm; split_ifs <;> rfl
@[simp] theorem alarm_inUse : (alarm s).lc.inUse = s.lc.inUse := by
  unfold alarm; split_ifs <;> rfl
@[simp] theorem alarm_rate : (alarm s).lc.rate = s.lc.rate := by
  unfold alarm; split_ifs <;> rfl
@[simp] theorem alarm_mode : (alarm s).lc.mode = s.lc.mode := by
  unfold alarm; split_ifs <;> rfl
@[simp] theorem alarm_txErrors : (alarm s).lc.txErrors = s.lc.txErrors := by
  unfold alarm; split_ifs <;> rfl
@[simp] theorem alarm_coolLength : (alarm s).lc.coolLength = s.lc.coolLength := by
  unfold alarm; split_ifs <;> rfl
@[simp] theorem alarm_coolTimer : (alarm s).lc.coolTimer = s.lc.coolTimer := by
  unfold alarm; split_ifs <;> rfl
@[simp] theorem alarm_rxQueue : (alarm s).lc.rxQueue = s.lc.rxQueue := by
  unfold alarm; split_ifs <;> rfl
@[simp] theorem alarm_pendingBreak : (alarm s).lc.pendingBreak = s.lc.pendingBreak := by
  unfold alarm; split_ifs <;> rfl
@[simp] theorem alarm_lastBreak : (alarm s).lc.lastBreak = s.lc.lastBreak := by
  unfold alarm; split_ifs <;> rfl
@[simp] theorem alarm_window : (alarm s).lc.window = s.lc.window := by
  unfold alarm; split_ifs <;> rfl
@[simp] theorem alarm_unheard : (alarm s).lc.unheard = s.lc.unheard := by
  unfold alarm; split_ifs <;> rfl
@[simp] theorem alarm_idleNeed : (alarm s).lc.idleNeed = s.lc.idleNeed := by
  unfold alarm; split_ifs <;> rfl
@[simp] theorem alarm_idleCount : (alarm s).lc.idleCount = s.lc.idleCount := by
  unfold alarm; split_ifs <;> rfl
@[simp] theorem alarm_phase : (alarm s).lc.phase = s.lc.phase := by
  unfold alarm; split_ifs <;> rfl
@[simp] theorem alarm_breakSeen : (alarm s).lc.breakSeen = s.lc.breakSeen := by
  unfold alarm; split_ifs <;> rfl
@[simp] theorem alarm_breakRun : (alarm s).lc.breakRun = s.lc.breakRun := by
  unfold alarm; split_ifs <;> rfl
@[simp] theorem alarm_beaconTimer : (alarm s).lc.beaconTimer = s.lc.beaconTimer := by
  unfold alarm; split_ifs <;> rfl
@[simp] theorem alarm_beaconPeriod : (alarm s).lc.beaconPeriod = s.lc.beaconPeriod := by
  unfold alarm; split_ifs <;> rfl
@[simp] theorem alarm_ackDriven : (alarm s).lc.ackDriven = s.lc.ackDriven := by
  unfold alarm; split_ifs <;> rfl
@[simp] theorem alarm_holdDriven : (alarm s).lc.holdDriven = s.lc.holdDriven := by
  unfold alarm; split_ifs <;> rfl

@[simp] theorem breakRequest_now : (breakRequest s).now = s.now := by
  unfold breakRequest; split_ifs <;> rfl
@[simp] theorem breakRequest_mi : (breakRequest s).mi = s.mi := by
  unfold breakRequest; split_ifs <;> rfl
@[simp] theorem breakRequest_ca : (breakRequest s).ca = s.ca := by
  unfold breakRequest; split_ifs <;> rfl
@[simp] theorem breakRequest_pm : (breakRequest s).pm = s.pm := by
  unfold breakRequest; split_ifs <;> rfl
@[simp] theorem breakRequest_nt : (breakRequest s).nt = s.nt := by
  unfold breakRequest; split_ifs <;> rfl
@[simp] theorem breakRequest_su : (breakRequest s).su = s.su := by
  unfold breakRequest; split_ifs <;> rfl
@[simp] theorem breakRequest_fr : (breakRequest s).fr = s.fr := by
  unfold breakRequest; split_ifs <;> rfl
@[simp] theorem breakRequest_nc : (breakRequest s).nc = s.nc := by
  unfold breakRequest; split_ifs <;> rfl
@[simp] theorem breakRequest_cu : (breakRequest s).cu = s.cu := by
  unfold breakRequest; split_ifs <;> rfl
@[simp] theorem breakRequest_pending : (breakRequest s).pending = s.pending := by
  unfold breakRequest; split_ifs <;> rfl
@[simp] theorem breakRequest_inUse : (breakRequest s).lc.inUse = s.lc.inUse := by
  unfold breakRequest; split_ifs <;> rfl
@[simp] theorem breakRequest_rate : (breakRequest s).lc.rate = s.lc.rate := by
  unfold breakRequest; split_ifs <;> rfl
@[simp] theorem breakRequest_mode : (breakRequest s).lc.mode = s.lc.mode := by
  unfold breakRequest; split_ifs <;> rfl
@[simp] theorem breakRequest_txErrors : (breakRequest s).lc.txErrors = s.lc.txErrors := by
  unfold breakRequest; split_ifs <;> rfl
@[simp] theorem breakRequest_coolLength : (breakRequest s).lc.coolLength = s.lc.coolLength := by
  unfold breakRequest; split_ifs <;> rfl
@[simp] theorem breakRequest_coolTimer : (breakRequest s).lc.coolTimer = s.lc.coolTimer := by
  unfold breakRequest; split_ifs <;> rfl
@[simp] theorem breakRequest_rxQueue : (breakRequest s).lc.rxQueue = s.lc.rxQueue := by
  unfold breakRequest; split_ifs <;> rfl
@[simp] theorem breakRequest_txQueue : (breakRequest s).lc.txQueue = s.lc.txQueue := by
  unfold breakRequest; split_ifs <;> rfl
@[simp] theorem breakRequest_lastBreak : (breakRequest s).lc.lastBreak = s.lc.lastBreak := by
  unfold breakRequest; split_ifs <;> rfl
@[simp] theorem breakRequest_window : (breakRequest s).lc.window = s.lc.window := by
  unfold breakRequest; split_ifs <;> rfl
@[simp] theorem breakRequest_unheard : (breakRequest s).lc.unheard = s.lc.unheard := by
  unfold breakRequest; split_ifs <;> rfl
@[simp] theorem breakRequest_idleNeed : (breakRequest s).lc.idleNeed = s.lc.idleNeed := by
  unfold breakRequest; split_ifs <;> rfl
@[simp] theorem breakRequest_idleCount : (breakRequest s).lc.idleCount = s.lc.idleCount := by
  unfold breakRequest; split_ifs <;> rfl
@[simp] theorem breakRequest_phase : (breakRequest s).lc.phase = s.lc.phase := by
  unfold breakRequest; split_ifs <;> rfl
@[simp] theorem breakRequest_breakSeen : (breakRequest s).lc.breakSeen = s.lc.breakSeen := by
  unfold breakRequest; split_ifs <;> rfl
@[simp] theorem breakRequest_breakRun : (breakRequest s).lc.breakRun = s.lc.breakRun := by
  unfold breakRequest; split_ifs <;> rfl
@[simp] theorem breakRequest_followUp : (breakRequest s).lc.followUp = s.lc.followUp := by
  unfold breakRequest; split_ifs <;> rfl
@[simp] theorem breakRequest_beaconTimer : (breakRequest s).lc.beaconTimer = s.lc.beaconTimer := by
  unfold breakRequest; split_ifs <;> rfl
@[simp] theorem breakRequest_beaconPeriod : (breakRequest s).lc.beaconPeriod = s.lc.beaconPeriod := by
  unfold breakRequest; split_ifs <;> rfl
@[simp] theorem breakRequest_ackDriven : (breakRequest s).lc.ackDriven = s.lc.ackDriven := by
  unfold breakRequest; split_ifs <;> rfl
@[simp] theorem breakRequest_holdDriven : (breakRequest s).lc.holdDriven = s.lc.holdDriven := by
  unfold breakRequest; split_ifs <;> rfl

@[simp] theorem evaluateOff_now : (evaluateOff s).now = s.now := by
  unfold evaluateOff; dsimp only; split_ifs <;> simp
@[simp] theorem evaluateOff_mi : (evaluateOff s).mi = s.mi := by
  unfold evaluateOff; dsimp only; split_ifs <;> simp
@[simp] theorem evaluateOff_pm : (evaluateOff s).pm = s.pm := by
  unfold evaluateOff; dsimp only; split_ifs <;> simp
@[simp] theorem evaluateOff_nt : (evaluateOff s).nt = s.nt := by
  unfold evaluateOff; dsimp only; split_ifs <;> simp
@[simp] theorem evaluateOff_su : (evaluateOff s).su = s.su := by
  unfold evaluateOff; dsimp only; split_ifs <;> simp
@[simp] theorem evaluateOff_fr : (evaluateOff s).fr = s.fr := by
  unfold evaluateOff; dsimp only; split_ifs <;> simp
@[simp] theorem evaluateOff_nc : (evaluateOff s).nc = s.nc := by
  unfold evaluateOff; dsimp only; split_ifs <;> simp
@[simp] theorem evaluateOff_cu : (evaluateOff s).cu = s.cu := by
  unfold evaluateOff; dsimp only; split_ifs <;> simp
@[simp] theorem evaluateOff_pending : (evaluateOff s).pending = s.pending := by
  unfold evaluateOff; dsimp only; split_ifs <;> simp
@[simp] theorem evaluateOff_inUse : (evaluateOff s).lc.inUse = s.lc.inUse := by
  unfold evaluateOff; dsimp only; split_ifs <;> simp
@[simp] theorem evaluateOff_rate : (evaluateOff s).lc.rate = s.lc.rate := by
  unfold evaluateOff; dsimp only; split_ifs <;> simp
@[simp] theorem evaluateOff_mode : (evaluateOff s).lc.mode = s.lc.mode := by
  unfold evaluateOff; dsimp only; split_ifs <;> simp
@[simp] theorem evaluateOff_txErrors : (evaluateOff s).lc.txErrors = s.lc.txErrors := by
  unfold evaluateOff; dsimp only; split_ifs <;> simp
@[simp] theorem evaluateOff_coolLength : (evaluateOff s).lc.coolLength = s.lc.coolLength := by
  unfold evaluateOff; dsimp only; split_ifs <;> simp
@[simp] theorem evaluateOff_coolTimer : (evaluateOff s).lc.coolTimer = s.lc.coolTimer := by
  unfold evaluateOff; dsimp only; split_ifs <;> simp
@[simp] theorem evaluateOff_rxQueue : (evaluateOff s).lc.rxQueue = s.lc.rxQueue := by
  unfold evaluateOff; dsimp only; split_ifs <;> simp
@[simp] theorem evaluateOff_pendingBreak : (evaluateOff s).lc.pendingBreak = s.lc.pendingBreak := by
  unfold evaluateOff; dsimp only; split_ifs <;> simp
@[simp] theorem evaluateOff_lastBreak : (evaluateOff s).lc.lastBreak = s.lc.lastBreak := by
  unfold evaluateOff; dsimp only; split_ifs <;> simp
@[simp] theorem evaluateOff_window : (evaluateOff s).lc.window = s.lc.window := by
  unfold evaluateOff; dsimp only; split_ifs <;> simp
@[simp] theorem evaluateOff_unheard : (evaluateOff s).lc.unheard = s.lc.unheard := by
  unfold evaluateOff; dsimp only; split_ifs <;> simp
@[simp] theorem evaluateOff_idleNeed : (evaluateOff s).lc.idleNeed = s.lc.idleNeed := by
  unfold evaluateOff; dsimp only; split_ifs <;> simp
@[simp] theorem evaluateOff_idleCount : (evaluateOff s).lc.idleCount = s.lc.idleCount := by
  unfold evaluateOff; dsimp only; split_ifs <;> simp
@[simp] theorem evaluateOff_phase : (evaluateOff s).lc.phase = s.lc.phase := by
  unfold evaluateOff; dsimp only; split_ifs <;> simp
@[simp] theorem evaluateOff_breakSeen : (evaluateOff s).lc.breakSeen = s.lc.breakSeen := by
  unfold evaluateOff; dsimp only; split_ifs <;> simp
@[simp] theorem evaluateOff_breakRun : (evaluateOff s).lc.breakRun = s.lc.breakRun := by
  unfold evaluateOff; dsimp only; split_ifs <;> simp
@[simp] theorem evaluateOff_beaconTimer : (evaluateOff s).lc.beaconTimer = s.lc.beaconTimer := by
  unfold evaluateOff; dsimp only; split_ifs <;> simp
@[simp] theorem evaluateOff_beaconPeriod : (evaluateOff s).lc.beaconPeriod = s.lc.beaconPeriod := by
  unfold evaluateOff; dsimp only; split_ifs <;> simp
@[simp] theorem evaluateOff_ackDriven : (evaluateOff s).lc.ackDriven = s.lc.ackDriven := by
  unfold evaluateOff; dsimp only; split_ifs <;> simp
@[simp] theorem evaluateOff_holdDriven : (evaluateOff s).lc.holdDriven = s.lc.holdDriven := by
  unfold evaluateOff; dsimp only; split_ifs <;> simp

@[simp] theorem handLevel_now (k : Slot) : (handLevel k s).now = s.now := by
  unfold handLevel; split_ifs <;> rfl
@[simp] theorem handLevel_mi (k : Slot) : (handLevel k s).mi = s.mi := by
  unfold handLevel; split_ifs <;> rfl
@[simp] theorem handLevel_lc (k : Slot) : (handLevel k s).lc = s.lc := by
  unfold handLevel; split_ifs <;> rfl
@[simp] theorem handLevel_nt (k : Slot) : (handLevel k s).nt = s.nt := by
  unfold handLevel; split_ifs <;> rfl
@[simp] theorem handLevel_su (k : Slot) : (handLevel k s).su = s.su := by
  unfold handLevel; split_ifs <;> rfl
@[simp] theorem handLevel_fr (k : Slot) : (handLevel k s).fr = s.fr := by
  unfold handLevel; split_ifs <;> rfl
@[simp] theorem handLevel_nc (k : Slot) : (handLevel k s).nc = s.nc := by
  unfold handLevel; split_ifs <;> rfl
@[simp] theorem handLevel_cu (k : Slot) : (handLevel k s).cu = s.cu := by
  unfold handLevel; split_ifs <;> rfl
@[simp] theorem handLevel_pending (k : Slot) : (handLevel k s).pending = s.pending := by
  unfold handLevel; split_ifs <;> rfl

@[simp] theorem pass_now : (pass s).now = s.now := by
  unfold pass; dsimp only; split_ifs <;> simp [Slot.all]
@[simp] theorem pass_mi : (pass s).mi = s.mi := by
  unfold pass; dsimp only; split_ifs <;> simp [Slot.all]
@[simp] theorem pass_lc : (pass s).lc = s.lc := by
  unfold pass; dsimp only; split_ifs <;> simp [Slot.all]
@[simp] theorem pass_nt : (pass s).nt = s.nt := by
  unfold pass; dsimp only; split_ifs <;> simp [Slot.all]
@[simp] theorem pass_su : (pass s).su = s.su := by
  unfold pass; dsimp only; split_ifs <;> simp [Slot.all]
@[simp] theorem pass_nc : (pass s).nc = s.nc := by
  unfold pass; dsimp only; split_ifs <;> simp [Slot.all]
@[simp] theorem pass_cu : (pass s).cu = s.cu := by
  unfold pass; dsimp only; split_ifs <;> simp [Slot.all]
@[simp] theorem pass_pending : (pass s).pending = s.pending := by
  unfold pass; dsimp only; split_ifs <;> simp [Slot.all]

@[simp] theorem tripActions_now (k : Slot) : (tripActions k s).now = s.now := by
  unfold tripActions; dsimp only; split_ifs <;> simp
@[simp] theorem tripActions_mi (k : Slot) : (tripActions k s).mi = s.mi := by
  unfold tripActions; dsimp only; split_ifs <;> simp
@[simp] theorem tripActions_nt (k : Slot) : (tripActions k s).nt = s.nt := by
  unfold tripActions; dsimp only; split_ifs <;> simp
@[simp] theorem tripActions_su (k : Slot) : (tripActions k s).su = s.su := by
  unfold tripActions; dsimp only; split_ifs <;> simp
@[simp] theorem tripActions_nc (k : Slot) : (tripActions k s).nc = s.nc := by
  unfold tripActions; dsimp only; split_ifs <;> simp
@[simp] theorem tripActions_cu (k : Slot) : (tripActions k s).cu = s.cu := by
  unfold tripActions; dsimp only; split_ifs <;> simp
@[simp] theorem tripActions_pending (k : Slot) : (tripActions k s).pending = s.pending := by
  unfold tripActions; dsimp only; split_ifs <;> simp
@[simp] theorem tripActions_inUse (k : Slot) : (tripActions k s).lc.inUse = s.lc.inUse := by
  unfold tripActions; dsimp only; split_ifs <;> simp
@[simp] theorem tripActions_rate (k : Slot) : (tripActions k s).lc.rate = s.lc.rate := by
  unfold tripActions; dsimp only; split_ifs <;> simp
@[simp] theorem tripActions_mode (k : Slot) : (tripActions k s).lc.mode = s.lc.mode := by
  unfold tripActions; dsimp only; split_ifs <;> simp
@[simp] theorem tripActions_txErrors (k : Slot) : (tripActions k s).lc.txErrors = s.lc.txErrors := by
  unfold tripActions; dsimp only; split_ifs <;> simp
@[simp] theorem tripActions_coolLength (k : Slot) : (tripActions k s).lc.coolLength = s.lc.coolLength := by
  unfold tripActions; dsimp only; split_ifs <;> simp
@[simp] theorem tripActions_coolTimer (k : Slot) : (tripActions k s).lc.coolTimer = s.lc.coolTimer := by
  unfold tripActions; dsimp only; split_ifs <;> simp
@[simp] theorem tripActions_rxQueue (k : Slot) : (tripActions k s).lc.rxQueue = s.lc.rxQueue := by
  unfold tripActions; dsimp only; split_ifs <;> simp
@[simp] theorem tripActions_pendingBreak (k : Slot) : (tripActions k s).lc.pendingBreak = s.lc.pendingBreak := by
  unfold tripActions; dsimp only; split_ifs <;> simp
@[simp] theorem tripActions_lastBreak (k : Slot) : (tripActions k s).lc.lastBreak = s.lc.lastBreak := by
  unfold tripActions; dsimp only; split_ifs <;> simp
@[simp] theorem tripActions_window (k : Slot) : (tripActions k s).lc.window = s.lc.window := by
  unfold tripActions; dsimp only; split_ifs <;> simp
@[simp] theorem tripActions_unheard (k : Slot) : (tripActions k s).lc.unheard = s.lc.unheard := by
  unfold tripActions; dsimp only; split_ifs <;> simp
@[simp] theorem tripActions_idleNeed (k : Slot) : (tripActions k s).lc.idleNeed = s.lc.idleNeed := by
  unfold tripActions; dsimp only; split_ifs <;> simp
@[simp] theorem tripActions_idleCount (k : Slot) : (tripActions k s).lc.idleCount = s.lc.idleCount := by
  unfold tripActions; dsimp only; split_ifs <;> simp
@[simp] theorem tripActions_phase (k : Slot) : (tripActions k s).lc.phase = s.lc.phase := by
  unfold tripActions; dsimp only; split_ifs <;> simp
@[simp] theorem tripActions_breakSeen (k : Slot) : (tripActions k s).lc.breakSeen = s.lc.breakSeen := by
  unfold tripActions; dsimp only; split_ifs <;> simp
@[simp] theorem tripActions_breakRun (k : Slot) : (tripActions k s).lc.breakRun = s.lc.breakRun := by
  unfold tripActions; dsimp only; split_ifs <;> simp
@[simp] theorem tripActions_beaconTimer (k : Slot) : (tripActions k s).lc.beaconTimer = s.lc.beaconTimer := by
  unfold tripActions; dsimp only; split_ifs <;> simp
@[simp] theorem tripActions_beaconPeriod (k : Slot) : (tripActions k s).lc.beaconPeriod = s.lc.beaconPeriod := by
  unfold tripActions; dsimp only; split_ifs <;> simp
@[simp] theorem tripActions_ackDriven (k : Slot) : (tripActions k s).lc.ackDriven = s.lc.ackDriven := by
  unfold tripActions; dsimp only; split_ifs <;> simp
@[simp] theorem tripActions_holdDriven (k : Slot) : (tripActions k s).lc.holdDriven = s.lc.holdDriven := by
  unfold tripActions; dsimp only; split_ifs <;> simp

@[simp] theorem stateChanged_now : (stateChanged s).now = s.now := by
  unfold stateChanged; simp
@[simp] theorem stateChanged_mi : (stateChanged s).mi = s.mi := by
  unfold stateChanged; simp
@[simp] theorem stateChanged_nt : (stateChanged s).nt = s.nt := by
  unfold stateChanged; simp
@[simp] theorem stateChanged_su : (stateChanged s).su = s.su := by
  unfold stateChanged; simp
@[simp] theorem stateChanged_nc : (stateChanged s).nc = s.nc := by
  unfold stateChanged; simp
@[simp] theorem stateChanged_cu : (stateChanged s).cu = s.cu := by
  unfold stateChanged; simp
@[simp] theorem stateChanged_pending : (stateChanged s).pending = s.pending := by
  unfold stateChanged; simp
@[simp] theorem stateChanged_inUse : (stateChanged s).lc.inUse = s.lc.inUse := by
  unfold stateChanged; simp
@[simp] theorem stateChanged_rate : (stateChanged s).lc.rate = s.lc.rate := by
  unfold stateChanged; simp
@[simp] theorem stateChanged_mode : (stateChanged s).lc.mode = s.lc.mode := by
  unfold stateChanged; simp
@[simp] theorem stateChanged_txErrors : (stateChanged s).lc.txErrors = s.lc.txErrors := by
  unfold stateChanged; simp
@[simp] theorem stateChanged_coolLength : (stateChanged s).lc.coolLength = s.lc.coolLength := by
  unfold stateChanged; simp
@[simp] theorem stateChanged_coolTimer : (stateChanged s).lc.coolTimer = s.lc.coolTimer := by
  unfold stateChanged; simp
@[simp] theorem stateChanged_rxQueue : (stateChanged s).lc.rxQueue = s.lc.rxQueue := by
  unfold stateChanged; simp
@[simp] theorem stateChanged_pendingBreak : (stateChanged s).lc.pendingBreak = s.lc.pendingBreak := by
  unfold stateChanged; simp
@[simp] theorem stateChanged_lastBreak : (stateChanged s).lc.lastBreak = s.lc.lastBreak := by
  unfold stateChanged; simp
@[simp] theorem stateChanged_window : (stateChanged s).lc.window = s.lc.window := by
  unfold stateChanged; simp
@[simp] theorem stateChanged_unheard : (stateChanged s).lc.unheard = s.lc.unheard := by
  unfold stateChanged; simp
@[simp] theorem stateChanged_idleNeed : (stateChanged s).lc.idleNeed = s.lc.idleNeed := by
  unfold stateChanged; simp
@[simp] theorem stateChanged_idleCount : (stateChanged s).lc.idleCount = s.lc.idleCount := by
  unfold stateChanged; simp
@[simp] theorem stateChanged_phase : (stateChanged s).lc.phase = s.lc.phase := by
  unfold stateChanged; simp
@[simp] theorem stateChanged_breakSeen : (stateChanged s).lc.breakSeen = s.lc.breakSeen := by
  unfold stateChanged; simp
@[simp] theorem stateChanged_breakRun : (stateChanged s).lc.breakRun = s.lc.breakRun := by
  unfold stateChanged; simp
@[simp] theorem stateChanged_beaconTimer : (stateChanged s).lc.beaconTimer = s.lc.beaconTimer := by
  unfold stateChanged; simp
@[simp] theorem stateChanged_beaconPeriod : (stateChanged s).lc.beaconPeriod = s.lc.beaconPeriod := by
  unfold stateChanged; simp
@[simp] theorem stateChanged_ackDriven : (stateChanged s).lc.ackDriven = s.lc.ackDriven := by
  unfold stateChanged; simp
@[simp] theorem stateChanged_holdDriven : (stateChanged s).lc.holdDriven = s.lc.holdDriven := by
  unfold stateChanged; simp

@[simp] theorem enterWithdrawn_now : (enterWithdrawn s).now = s.now := by
  unfold enterWithdrawn; simp
@[simp] theorem enterWithdrawn_mi : (enterWithdrawn s).mi = s.mi := by
  unfold enterWithdrawn; simp
@[simp] theorem enterWithdrawn_nt : (enterWithdrawn s).nt = s.nt := by
  unfold enterWithdrawn; simp
@[simp] theorem enterWithdrawn_cu : (enterWithdrawn s).cu = s.cu := by
  unfold enterWithdrawn; simp
@[simp] theorem enterWithdrawn_pending : (enterWithdrawn s).pending = s.pending := by
  unfold enterWithdrawn; simp
@[simp] theorem enterWithdrawn_inUse : (enterWithdrawn s).lc.inUse = s.lc.inUse := by
  unfold enterWithdrawn; simp
@[simp] theorem enterWithdrawn_rate : (enterWithdrawn s).lc.rate = s.lc.rate := by
  unfold enterWithdrawn; simp
@[simp] theorem enterWithdrawn_mode : (enterWithdrawn s).lc.mode = s.lc.mode := by
  unfold enterWithdrawn; simp
@[simp] theorem enterWithdrawn_txErrors : (enterWithdrawn s).lc.txErrors = s.lc.txErrors := by
  unfold enterWithdrawn; simp
@[simp] theorem enterWithdrawn_coolLength : (enterWithdrawn s).lc.coolLength = s.lc.coolLength := by
  unfold enterWithdrawn; simp
@[simp] theorem enterWithdrawn_coolTimer : (enterWithdrawn s).lc.coolTimer = s.lc.coolTimer := by
  unfold enterWithdrawn; simp
@[simp] theorem enterWithdrawn_rxQueue : (enterWithdrawn s).lc.rxQueue = s.lc.rxQueue := by
  unfold enterWithdrawn; simp
@[simp] theorem enterWithdrawn_lastBreak : (enterWithdrawn s).lc.lastBreak = s.lc.lastBreak := by
  unfold enterWithdrawn; simp
@[simp] theorem enterWithdrawn_window : (enterWithdrawn s).lc.window = s.lc.window := by
  unfold enterWithdrawn; simp
@[simp] theorem enterWithdrawn_unheard : (enterWithdrawn s).lc.unheard = s.lc.unheard := by
  unfold enterWithdrawn; simp
@[simp] theorem enterWithdrawn_idleNeed : (enterWithdrawn s).lc.idleNeed = s.lc.idleNeed := by
  unfold enterWithdrawn; simp
@[simp] theorem enterWithdrawn_idleCount : (enterWithdrawn s).lc.idleCount = s.lc.idleCount := by
  unfold enterWithdrawn; simp
@[simp] theorem enterWithdrawn_phase : (enterWithdrawn s).lc.phase = s.lc.phase := by
  unfold enterWithdrawn; simp
@[simp] theorem enterWithdrawn_breakSeen : (enterWithdrawn s).lc.breakSeen = s.lc.breakSeen := by
  unfold enterWithdrawn; simp
@[simp] theorem enterWithdrawn_breakRun : (enterWithdrawn s).lc.breakRun = s.lc.breakRun := by
  unfold enterWithdrawn; simp
@[simp] theorem enterWithdrawn_beaconTimer : (enterWithdrawn s).lc.beaconTimer = s.lc.beaconTimer := by
  unfold enterWithdrawn; simp
@[simp] theorem enterWithdrawn_beaconPeriod : (enterWithdrawn s).lc.beaconPeriod = s.lc.beaconPeriod := by
  unfold enterWithdrawn; simp
@[simp] theorem enterWithdrawn_ackDriven : (enterWithdrawn s).lc.ackDriven = s.lc.ackDriven := by
  unfold enterWithdrawn; simp
@[simp] theorem enterWithdrawn_holdDriven : (enterWithdrawn s).lc.holdDriven = s.lc.holdDriven := by
  unfold enterWithdrawn; simp

@[simp] theorem withdraw_now : (withdraw s).now = s.now := by
  unfold withdraw; split_ifs <;> simp
@[simp] theorem withdraw_mi : (withdraw s).mi = s.mi := by
  unfold withdraw; split_ifs <;> simp
@[simp] theorem withdraw_nt : (withdraw s).nt = s.nt := by
  unfold withdraw; split_ifs <;> simp
@[simp] theorem withdraw_cu : (withdraw s).cu = s.cu := by
  unfold withdraw; split_ifs <;> simp
@[simp] theorem withdraw_pending : (withdraw s).pending = s.pending := by
  unfold withdraw; split_ifs <;> simp
@[simp] theorem withdraw_inUse : (withdraw s).lc.inUse = s.lc.inUse := by
  unfold withdraw; split_ifs <;> simp
@[simp] theorem withdraw_rate : (withdraw s).lc.rate = s.lc.rate := by
  unfold withdraw; split_ifs <;> simp
@[simp] theorem withdraw_mode : (withdraw s).lc.mode = s.lc.mode := by
  unfold withdraw; split_ifs <;> simp
@[simp] theorem withdraw_txErrors : (withdraw s).lc.txErrors = s.lc.txErrors := by
  unfold withdraw; split_ifs <;> simp
@[simp] theorem withdraw_coolLength : (withdraw s).lc.coolLength = s.lc.coolLength := by
  unfold withdraw; split_ifs <;> simp
@[simp] theorem withdraw_coolTimer : (withdraw s).lc.coolTimer = s.lc.coolTimer := by
  unfold withdraw; split_ifs <;> simp
@[simp] theorem withdraw_rxQueue : (withdraw s).lc.rxQueue = s.lc.rxQueue := by
  unfold withdraw; split_ifs <;> simp
@[simp] theorem withdraw_lastBreak : (withdraw s).lc.lastBreak = s.lc.lastBreak := by
  unfold withdraw; split_ifs <;> simp
@[simp] theorem withdraw_window : (withdraw s).lc.window = s.lc.window := by
  unfold withdraw; split_ifs <;> simp
@[simp] theorem withdraw_unheard : (withdraw s).lc.unheard = s.lc.unheard := by
  unfold withdraw; split_ifs <;> simp
@[simp] theorem withdraw_idleNeed : (withdraw s).lc.idleNeed = s.lc.idleNeed := by
  unfold withdraw; split_ifs <;> simp
@[simp] theorem withdraw_idleCount : (withdraw s).lc.idleCount = s.lc.idleCount := by
  unfold withdraw; split_ifs <;> simp
@[simp] theorem withdraw_phase : (withdraw s).lc.phase = s.lc.phase := by
  unfold withdraw; split_ifs <;> simp
@[simp] theorem withdraw_breakSeen : (withdraw s).lc.breakSeen = s.lc.breakSeen := by
  unfold withdraw; split_ifs <;> simp
@[simp] theorem withdraw_breakRun : (withdraw s).lc.breakRun = s.lc.breakRun := by
  unfold withdraw; split_ifs <;> simp
@[simp] theorem withdraw_beaconTimer : (withdraw s).lc.beaconTimer = s.lc.beaconTimer := by
  unfold withdraw; split_ifs <;> simp
@[simp] theorem withdraw_beaconPeriod : (withdraw s).lc.beaconPeriod = s.lc.beaconPeriod := by
  unfold withdraw; split_ifs <;> simp
@[simp] theorem withdraw_ackDriven : (withdraw s).lc.ackDriven = s.lc.ackDriven := by
  unfold withdraw; split_ifs <;> simp
@[simp] theorem withdraw_holdDriven : (withdraw s).lc.holdDriven = s.lc.holdDriven := by
  unfold withdraw; split_ifs <;> simp

@[simp] theorem raiseFault_now (k : Key) (r : Option (Int × Int)) : (raiseFault k r s).now = s.now := by
  unfold raiseFault; dsimp only; split_ifs <;> simp
@[simp] theorem raiseFault_mi (k : Key) (r : Option (Int × Int)) : (raiseFault k r s).mi = s.mi := by
  unfold raiseFault; dsimp only; split_ifs <;> simp
@[simp] theorem raiseFault_nt (k : Key) (r : Option (Int × Int)) : (raiseFault k r s).nt = s.nt := by
  unfold raiseFault; dsimp only; split_ifs <;> simp
@[simp] theorem raiseFault_cu (k : Key) (r : Option (Int × Int)) : (raiseFault k r s).cu = s.cu := by
  unfold raiseFault; dsimp only; split_ifs <;> simp
@[simp] theorem raiseFault_pending (k : Key) (r : Option (Int × Int)) : (raiseFault k r s).pending = s.pending := by
  unfold raiseFault; dsimp only; split_ifs <;> simp
@[simp] theorem raiseFault_inUse (k : Key) (r : Option (Int × Int)) : (raiseFault k r s).lc.inUse = s.lc.inUse := by
  unfold raiseFault; dsimp only; split_ifs <;> simp
@[simp] theorem raiseFault_rate (k : Key) (r : Option (Int × Int)) : (raiseFault k r s).lc.rate = s.lc.rate := by
  unfold raiseFault; dsimp only; split_ifs <;> simp
@[simp] theorem raiseFault_mode (k : Key) (r : Option (Int × Int)) : (raiseFault k r s).lc.mode = s.lc.mode := by
  unfold raiseFault; dsimp only; split_ifs <;> simp
@[simp] theorem raiseFault_txErrors (k : Key) (r : Option (Int × Int)) :
    (raiseFault k r s).lc.txErrors = s.lc.txErrors := by
  unfold raiseFault; dsimp only; split_ifs <;> simp
@[simp] theorem raiseFault_coolLength (k : Key) (r : Option (Int × Int)) :
    (raiseFault k r s).lc.coolLength = s.lc.coolLength := by
  unfold raiseFault; dsimp only; split_ifs <;> simp
@[simp] theorem raiseFault_coolTimer (k : Key) (r : Option (Int × Int)) :
    (raiseFault k r s).lc.coolTimer = s.lc.coolTimer := by
  unfold raiseFault; dsimp only; split_ifs <;> simp
@[simp] theorem raiseFault_rxQueue (k : Key) (r : Option (Int × Int)) :
    (raiseFault k r s).lc.rxQueue = s.lc.rxQueue := by
  unfold raiseFault; dsimp only; split_ifs <;> simp
@[simp] theorem raiseFault_lastBreak (k : Key) (r : Option (Int × Int)) :
    (raiseFault k r s).lc.lastBreak = s.lc.lastBreak := by
  unfold raiseFault; dsimp only; split_ifs <;> simp
@[simp] theorem raiseFault_window (k : Key) (r : Option (Int × Int)) :
    (raiseFault k r s).lc.window = s.lc.window := by
  unfold raiseFault; dsimp only; split_ifs <;> simp
@[simp] theorem raiseFault_unheard (k : Key) (r : Option (Int × Int)) :
    (raiseFault k r s).lc.unheard = s.lc.unheard := by
  unfold raiseFault; dsimp only; split_ifs <;> simp
@[simp] theorem raiseFault_idleNeed (k : Key) (r : Option (Int × Int)) :
    (raiseFault k r s).lc.idleNeed = s.lc.idleNeed := by
  unfold raiseFault; dsimp only; split_ifs <;> simp
@[simp] theorem raiseFault_idleCount (k : Key) (r : Option (Int × Int)) :
    (raiseFault k r s).lc.idleCount = s.lc.idleCount := by
  unfold raiseFault; dsimp only; split_ifs <;> simp
@[simp] theorem raiseFault_phase (k : Key) (r : Option (Int × Int)) : (raiseFault k r s).lc.phase = s.lc.phase := by
  unfold raiseFault; dsimp only; split_ifs <;> simp
@[simp] theorem raiseFault_breakSeen (k : Key) (r : Option (Int × Int)) :
    (raiseFault k r s).lc.breakSeen = s.lc.breakSeen := by
  unfold raiseFault; dsimp only; split_ifs <;> simp
@[simp] theorem raiseFault_breakRun (k : Key) (r : Option (Int × Int)) :
    (raiseFault k r s).lc.breakRun = s.lc.breakRun := by
  unfold raiseFault; dsimp only; split_ifs <;> simp
@[simp] theorem raiseFault_beaconTimer (k : Key) (r : Option (Int × Int)) :
    (raiseFault k r s).lc.beaconTimer = s.lc.beaconTimer := by
  unfold raiseFault; dsimp only; split_ifs <;> simp
@[simp] theorem raiseFault_beaconPeriod (k : Key) (r : Option (Int × Int)) :
    (raiseFault k r s).lc.beaconPeriod = s.lc.beaconPeriod := by
  unfold raiseFault; dsimp only; split_ifs <;> simp
@[simp] theorem raiseFault_ackDriven (k : Key) (r : Option (Int × Int)) :
    (raiseFault k r s).lc.ackDriven = s.lc.ackDriven := by
  unfold raiseFault; dsimp only; split_ifs <;> simp
@[simp] theorem raiseFault_holdDriven (k : Key) (r : Option (Int × Int)) :
    (raiseFault k r s).lc.holdDriven = s.lc.holdDriven := by
  unfold raiseFault; dsimp only; split_ifs <;> simp

@[simp] theorem enterJoining_now : (enterJoining s).now = s.now := by
  unfold enterJoining; dsimp only; split <;> simp [startBeaconTimer]
@[simp] theorem enterJoining_nt : (enterJoining s).nt = s.nt := by
  unfold enterJoining; dsimp only; split <;> simp [startBeaconTimer]
@[simp] theorem enterJoining_su : (enterJoining s).su = s.su := by
  unfold enterJoining; dsimp only; split <;> simp [startBeaconTimer]
@[simp] theorem enterJoining_cu : (enterJoining s).cu = s.cu := by
  unfold enterJoining; dsimp only; split <;> simp [startBeaconTimer]
@[simp] theorem enterJoining_pending : (enterJoining s).pending = s.pending := by
  unfold enterJoining; dsimp only; split <;> simp [startBeaconTimer]
@[simp] theorem enterJoining_inUse : (enterJoining s).lc.inUse = s.lc.inUse := by
  unfold enterJoining; dsimp only; split <;> simp [startBeaconTimer]
@[simp] theorem enterJoining_rate : (enterJoining s).lc.rate = s.lc.rate := by
  unfold enterJoining; dsimp only; split <;> simp [startBeaconTimer]
@[simp] theorem enterJoining_mode : (enterJoining s).lc.mode = s.lc.mode := by
  unfold enterJoining; dsimp only; split <;> simp [startBeaconTimer]
@[simp] theorem enterJoining_txErrors : (enterJoining s).lc.txErrors = s.lc.txErrors := by
  unfold enterJoining; dsimp only; split <;> simp [startBeaconTimer]
@[simp] theorem enterJoining_coolLength : (enterJoining s).lc.coolLength = s.lc.coolLength := by
  unfold enterJoining; dsimp only; split <;> simp [startBeaconTimer]
@[simp] theorem enterJoining_coolTimer : (enterJoining s).lc.coolTimer = s.lc.coolTimer := by
  unfold enterJoining; dsimp only; split <;> simp [startBeaconTimer]
@[simp] theorem enterJoining_rxQueue : (enterJoining s).lc.rxQueue = s.lc.rxQueue := by
  unfold enterJoining; dsimp only; split <;> simp [startBeaconTimer]
@[simp] theorem enterJoining_pendingBreak : (enterJoining s).lc.pendingBreak = s.lc.pendingBreak := by
  unfold enterJoining; dsimp only; split <;> simp [startBeaconTimer]
@[simp] theorem enterJoining_lastBreak : (enterJoining s).lc.lastBreak = s.lc.lastBreak := by
  unfold enterJoining; dsimp only; split <;> simp [startBeaconTimer]
@[simp] theorem enterJoining_window : (enterJoining s).lc.window = s.lc.window := by
  unfold enterJoining; dsimp only; split <;> simp [startBeaconTimer]
@[simp] theorem enterJoining_unheard : (enterJoining s).lc.unheard = s.lc.unheard := by
  unfold enterJoining; dsimp only; split <;> simp [startBeaconTimer]
@[simp] theorem enterJoining_idleNeed : (enterJoining s).lc.idleNeed = s.lc.idleNeed := by
  unfold enterJoining; dsimp only; split <;> simp [startBeaconTimer]
@[simp] theorem enterJoining_idleCount : (enterJoining s).lc.idleCount = s.lc.idleCount := by
  unfold enterJoining; dsimp only; split <;> simp [startBeaconTimer]
@[simp] theorem enterJoining_phase : (enterJoining s).lc.phase = s.lc.phase := by
  unfold enterJoining; dsimp only; split <;> simp [startBeaconTimer]
@[simp] theorem enterJoining_breakSeen : (enterJoining s).lc.breakSeen = s.lc.breakSeen := by
  unfold enterJoining; dsimp only; split <;> simp [startBeaconTimer]
@[simp] theorem enterJoining_breakRun : (enterJoining s).lc.breakRun = s.lc.breakRun := by
  unfold enterJoining; dsimp only; split <;> simp [startBeaconTimer]
@[simp] theorem enterJoining_ackDriven : (enterJoining s).lc.ackDriven = s.lc.ackDriven := by
  unfold enterJoining; dsimp only; split <;> simp [startBeaconTimer]
@[simp] theorem enterJoining_holdDriven : (enterJoining s).lc.holdDriven = s.lc.holdDriven := by
  unfold enterJoining; dsimp only; split <;> simp [startBeaconTimer]

@[simp] theorem enterServing_now : (enterServing s).now = s.now := by
  unfold enterServing; simp
@[simp] theorem enterServing_mi : (enterServing s).mi = s.mi := by
  unfold enterServing; simp
@[simp] theorem enterServing_nt : (enterServing s).nt = s.nt := by
  unfold enterServing; simp
@[simp] theorem enterServing_cu : (enterServing s).cu = s.cu := by
  unfold enterServing; simp
@[simp] theorem enterServing_pending : (enterServing s).pending = s.pending := by
  unfold enterServing; simp
@[simp] theorem enterServing_inUse : (enterServing s).lc.inUse = s.lc.inUse := by
  unfold enterServing; simp
@[simp] theorem enterServing_rate : (enterServing s).lc.rate = s.lc.rate := by
  unfold enterServing; simp
@[simp] theorem enterServing_mode : (enterServing s).lc.mode = s.lc.mode := by
  unfold enterServing; simp
@[simp] theorem enterServing_txErrors : (enterServing s).lc.txErrors = s.lc.txErrors := by
  unfold enterServing; simp
@[simp] theorem enterServing_coolLength : (enterServing s).lc.coolLength = s.lc.coolLength := by
  unfold enterServing; simp
@[simp] theorem enterServing_coolTimer : (enterServing s).lc.coolTimer = s.lc.coolTimer := by
  unfold enterServing; simp
@[simp] theorem enterServing_rxQueue : (enterServing s).lc.rxQueue = s.lc.rxQueue := by
  unfold enterServing; simp
@[simp] theorem enterServing_pendingBreak : (enterServing s).lc.pendingBreak = s.lc.pendingBreak := by
  unfold enterServing; simp
@[simp] theorem enterServing_lastBreak : (enterServing s).lc.lastBreak = s.lc.lastBreak := by
  unfold enterServing; simp
@[simp] theorem enterServing_window : (enterServing s).lc.window = s.lc.window := by
  unfold enterServing; simp
@[simp] theorem enterServing_unheard : (enterServing s).lc.unheard = s.lc.unheard := by
  unfold enterServing; simp
@[simp] theorem enterServing_idleNeed : (enterServing s).lc.idleNeed = s.lc.idleNeed := by
  unfold enterServing; simp
@[simp] theorem enterServing_idleCount : (enterServing s).lc.idleCount = s.lc.idleCount := by
  unfold enterServing; simp
@[simp] theorem enterServing_phase : (enterServing s).lc.phase = s.lc.phase := by
  unfold enterServing; simp
@[simp] theorem enterServing_breakSeen : (enterServing s).lc.breakSeen = s.lc.breakSeen := by
  unfold enterServing; simp
@[simp] theorem enterServing_breakRun : (enterServing s).lc.breakRun = s.lc.breakRun := by
  unfold enterServing; simp
@[simp] theorem enterServing_beaconTimer : (enterServing s).lc.beaconTimer = s.lc.beaconTimer := by
  unfold enterServing; simp
@[simp] theorem enterServing_beaconPeriod : (enterServing s).lc.beaconPeriod = s.lc.beaconPeriod := by
  unfold enterServing; simp
@[simp] theorem enterServing_ackDriven : (enterServing s).lc.ackDriven = s.lc.ackDriven := by
  unfold enterServing; simp
@[simp] theorem enterServing_holdDriven : (enterServing s).lc.holdDriven = s.lc.holdDriven := by
  unfold enterServing; simp

@[simp] theorem enterUnconfigured_now : (enterUnconfigured s).now = s.now := by
  unfold enterUnconfigured; simp [startBeaconTimer]
@[simp] theorem enterUnconfigured_nt : (enterUnconfigured s).nt = s.nt := by
  unfold enterUnconfigured; simp [startBeaconTimer]
@[simp] theorem enterUnconfigured_cu : (enterUnconfigured s).cu = s.cu := by
  unfold enterUnconfigured; simp [startBeaconTimer]
@[simp] theorem enterUnconfigured_pending : (enterUnconfigured s).pending = s.pending := by
  unfold enterUnconfigured; simp [startBeaconTimer]
@[simp] theorem enterUnconfigured_inUse : (enterUnconfigured s).lc.inUse = s.lc.inUse := by
  unfold enterUnconfigured; simp [startBeaconTimer]
@[simp] theorem enterUnconfigured_rate : (enterUnconfigured s).lc.rate = s.lc.rate := by
  unfold enterUnconfigured; simp [startBeaconTimer]
@[simp] theorem enterUnconfigured_mode : (enterUnconfigured s).lc.mode = s.lc.mode := by
  unfold enterUnconfigured; simp [startBeaconTimer]
@[simp] theorem enterUnconfigured_txErrors : (enterUnconfigured s).lc.txErrors = s.lc.txErrors := by
  unfold enterUnconfigured; simp [startBeaconTimer]
@[simp] theorem enterUnconfigured_coolLength : (enterUnconfigured s).lc.coolLength = s.lc.coolLength := by
  unfold enterUnconfigured; simp [startBeaconTimer]
@[simp] theorem enterUnconfigured_coolTimer : (enterUnconfigured s).lc.coolTimer = s.lc.coolTimer := by
  unfold enterUnconfigured; simp [startBeaconTimer]
@[simp] theorem enterUnconfigured_rxQueue : (enterUnconfigured s).lc.rxQueue = s.lc.rxQueue := by
  unfold enterUnconfigured; simp [startBeaconTimer]
@[simp] theorem enterUnconfigured_pendingBreak : (enterUnconfigured s).lc.pendingBreak = s.lc.pendingBreak := by
  unfold enterUnconfigured; simp [startBeaconTimer]
@[simp] theorem enterUnconfigured_lastBreak : (enterUnconfigured s).lc.lastBreak = s.lc.lastBreak := by
  unfold enterUnconfigured; simp [startBeaconTimer]
@[simp] theorem enterUnconfigured_window : (enterUnconfigured s).lc.window = s.lc.window := by
  unfold enterUnconfigured; simp [startBeaconTimer]
@[simp] theorem enterUnconfigured_unheard : (enterUnconfigured s).lc.unheard = s.lc.unheard := by
  unfold enterUnconfigured; simp [startBeaconTimer]
@[simp] theorem enterUnconfigured_idleNeed : (enterUnconfigured s).lc.idleNeed = s.lc.idleNeed := by
  unfold enterUnconfigured; simp [startBeaconTimer]
@[simp] theorem enterUnconfigured_idleCount : (enterUnconfigured s).lc.idleCount = s.lc.idleCount := by
  unfold enterUnconfigured; simp [startBeaconTimer]
@[simp] theorem enterUnconfigured_phase : (enterUnconfigured s).lc.phase = s.lc.phase := by
  unfold enterUnconfigured; simp [startBeaconTimer]
@[simp] theorem enterUnconfigured_breakSeen : (enterUnconfigured s).lc.breakSeen = s.lc.breakSeen := by
  unfold enterUnconfigured; simp [startBeaconTimer]
@[simp] theorem enterUnconfigured_breakRun : (enterUnconfigured s).lc.breakRun = s.lc.breakRun := by
  unfold enterUnconfigured; simp [startBeaconTimer]
@[simp] theorem enterUnconfigured_ackDriven : (enterUnconfigured s).lc.ackDriven = s.lc.ackDriven := by
  unfold enterUnconfigured; simp [startBeaconTimer]
@[simp] theorem enterUnconfigured_holdDriven : (enterUnconfigured s).lc.holdDriven = s.lc.holdDriven := by
  unfold enterUnconfigured; simp [startBeaconTimer]

@[simp] theorem clearSlotTrip_now (k : Slot) : (clearSlotTrip s k).now = s.now := by
  unfold clearSlotTrip; split_ifs <;> simp
@[simp] theorem clearSlotTrip_mi (k : Slot) : (clearSlotTrip s k).mi = s.mi := by
  unfold clearSlotTrip; split_ifs <;> simp
@[simp] theorem clearSlotTrip_lc (k : Slot) : (clearSlotTrip s k).lc = s.lc := by
  unfold clearSlotTrip; split_ifs <;> simp
@[simp] theorem clearSlotTrip_nt (k : Slot) : (clearSlotTrip s k).nt = s.nt := by
  unfold clearSlotTrip; split_ifs <;> simp
@[simp] theorem clearSlotTrip_su (k : Slot) : (clearSlotTrip s k).su = s.su := by
  unfold clearSlotTrip; split_ifs <;> simp
@[simp] theorem clearSlotTrip_nc (k : Slot) : (clearSlotTrip s k).nc = s.nc := by
  unfold clearSlotTrip; split_ifs <;> simp
@[simp] theorem clearSlotTrip_cu (k : Slot) : (clearSlotTrip s k).cu = s.cu := by
  unfold clearSlotTrip; split_ifs <;> simp
@[simp] theorem clearSlotTrip_pending (k : Slot) : (clearSlotTrip s k).pending = s.pending := by
  unfold clearSlotTrip; split_ifs <;> simp

@[simp] theorem clearAntenna_now : (clearAntenna s).now = s.now := by
  unfold clearAntenna; split_ifs <;> simp
@[simp] theorem clearAntenna_mi : (clearAntenna s).mi = s.mi := by
  unfold clearAntenna; split_ifs <;> simp
@[simp] theorem clearAntenna_ca : (clearAntenna s).ca = s.ca := by
  unfold clearAntenna; split_ifs <;> simp
@[simp] theorem clearAntenna_lc : (clearAntenna s).lc = s.lc := by
  unfold clearAntenna; split_ifs <;> simp
@[simp] theorem clearAntenna_nt : (clearAntenna s).nt = s.nt := by
  unfold clearAntenna; split_ifs <;> simp
@[simp] theorem clearAntenna_su : (clearAntenna s).su = s.su := by
  unfold clearAntenna; split_ifs <;> simp
@[simp] theorem clearAntenna_nc : (clearAntenna s).nc = s.nc := by
  unfold clearAntenna; split_ifs <;> simp
@[simp] theorem clearAntenna_cu : (clearAntenna s).cu = s.cu := by
  unfold clearAntenna; split_ifs <;> simp
@[simp] theorem clearAntenna_pending : (clearAntenna s).pending = s.pending := by
  unfold clearAntenna; split_ifs <;> simp

@[simp] theorem clearTarget_now (n : Nat) : (clearTarget n s).now = s.now := by
  unfold clearTarget; split_ifs <;> (try split) <;> simp [Slot.all]
@[simp] theorem clearTarget_mi (n : Nat) : (clearTarget n s).mi = s.mi := by
  unfold clearTarget; split_ifs <;> (try split) <;> simp [Slot.all]
@[simp] theorem clearTarget_lc (n : Nat) : (clearTarget n s).lc = s.lc := by
  unfold clearTarget; split_ifs <;> (try split) <;> simp [Slot.all]
@[simp] theorem clearTarget_nt (n : Nat) : (clearTarget n s).nt = s.nt := by
  unfold clearTarget; split_ifs <;> (try split) <;> simp [Slot.all]
@[simp] theorem clearTarget_su (n : Nat) : (clearTarget n s).su = s.su := by
  unfold clearTarget; split_ifs <;> (try split) <;> simp [Slot.all]
@[simp] theorem clearTarget_nc (n : Nat) : (clearTarget n s).nc = s.nc := by
  unfold clearTarget; split_ifs <;> (try split) <;> simp [Slot.all]
@[simp] theorem clearTarget_cu (n : Nat) : (clearTarget n s).cu = s.cu := by
  unfold clearTarget; split_ifs <;> (try split) <;> simp [Slot.all]
@[simp] theorem clearTarget_pending (n : Nat) : (clearTarget n s).pending = s.pending := by
  unfold clearTarget; split_ifs <;> (try split) <;> simp [Slot.all]

@[simp] theorem refreshSampleTimer_now : (refreshSampleTimer s).now = s.now := by
  unfold refreshSampleTimer; split <;> simp
@[simp] theorem refreshSampleTimer_ca : (refreshSampleTimer s).ca = s.ca := by
  unfold refreshSampleTimer; split <;> simp
@[simp] theorem refreshSampleTimer_pm : (refreshSampleTimer s).pm = s.pm := by
  unfold refreshSampleTimer; split <;> simp
@[simp] theorem refreshSampleTimer_lc : (refreshSampleTimer s).lc = s.lc := by
  unfold refreshSampleTimer; split <;> simp
@[simp] theorem refreshSampleTimer_nt : (refreshSampleTimer s).nt = s.nt := by
  unfold refreshSampleTimer; split <;> simp
@[simp] theorem refreshSampleTimer_su : (refreshSampleTimer s).su = s.su := by
  unfold refreshSampleTimer; split <;> simp
@[simp] theorem refreshSampleTimer_fr : (refreshSampleTimer s).fr = s.fr := by
  unfold refreshSampleTimer; split <;> simp
@[simp] theorem refreshSampleTimer_nc : (refreshSampleTimer s).nc = s.nc := by
  unfold refreshSampleTimer; split <;> simp
@[simp] theorem refreshSampleTimer_cu : (refreshSampleTimer s).cu = s.cu := by
  unfold refreshSampleTimer; split <;> simp
@[simp] theorem refreshSampleTimer_pending : (refreshSampleTimer s).pending = s.pending := by
  unfold refreshSampleTimer; split <;> simp

@[simp] theorem tripSlot_now (g : Setting) (a : State) (n : Nat) (k : Slot) : (tripSlot g a n k s).now = s.now := by
  unfold tripSlot; dsimp only; split_ifs <;> simp
@[simp] theorem tripSlot_mi (g : Setting) (a : State) (n : Nat) (k : Slot) : (tripSlot g a n k s).mi = s.mi := by
  unfold tripSlot; dsimp only; split_ifs <;> simp
@[simp] theorem tripSlot_nt (g : Setting) (a : State) (n : Nat) (k : Slot) : (tripSlot g a n k s).nt = s.nt := by
  unfold tripSlot; dsimp only; split_ifs <;> simp
@[simp] theorem tripSlot_cu (g : Setting) (a : State) (n : Nat) (k : Slot) : (tripSlot g a n k s).cu = s.cu := by
  unfold tripSlot; dsimp only; split_ifs <;> simp
@[simp] theorem tripSlot_pending (g : Setting) (a : State) (n : Nat) (k : Slot) :
    (tripSlot g a n k s).pending = s.pending := by
  unfold tripSlot; dsimp only; split_ifs <;> simp
@[simp] theorem tripSlot_inUse (g : Setting) (a : State) (n : Nat) (k : Slot) :
    (tripSlot g a n k s).lc.inUse = s.lc.inUse := by
  unfold tripSlot; dsimp only; split_ifs <;> simp
@[simp] theorem tripSlot_rate (g : Setting) (a : State) (n : Nat) (k : Slot) :
    (tripSlot g a n k s).lc.rate = s.lc.rate := by
  unfold tripSlot; dsimp only; split_ifs <;> simp
@[simp] theorem tripSlot_mode (g : Setting) (a : State) (n : Nat) (k : Slot) :
    (tripSlot g a n k s).lc.mode = s.lc.mode := by
  unfold tripSlot; dsimp only; split_ifs <;> simp
@[simp] theorem tripSlot_txErrors (g : Setting) (a : State) (n : Nat) (k : Slot) :
    (tripSlot g a n k s).lc.txErrors = s.lc.txErrors := by
  unfold tripSlot; dsimp only; split_ifs <;> simp
@[simp] theorem tripSlot_coolLength (g : Setting) (a : State) (n : Nat) (k : Slot) :
    (tripSlot g a n k s).lc.coolLength = s.lc.coolLength := by
  unfold tripSlot; dsimp only; split_ifs <;> simp
@[simp] theorem tripSlot_coolTimer (g : Setting) (a : State) (n : Nat) (k : Slot) :
    (tripSlot g a n k s).lc.coolTimer = s.lc.coolTimer := by
  unfold tripSlot; dsimp only; split_ifs <;> simp
@[simp] theorem tripSlot_rxQueue (g : Setting) (a : State) (n : Nat) (k : Slot) :
    (tripSlot g a n k s).lc.rxQueue = s.lc.rxQueue := by
  unfold tripSlot; dsimp only; split_ifs <;> simp
@[simp] theorem tripSlot_lastBreak (g : Setting) (a : State) (n : Nat) (k : Slot) :
    (tripSlot g a n k s).lc.lastBreak = s.lc.lastBreak := by
  unfold tripSlot; dsimp only; split_ifs <;> simp
@[simp] theorem tripSlot_window (g : Setting) (a : State) (n : Nat) (k : Slot) :
    (tripSlot g a n k s).lc.window = s.lc.window := by
  unfold tripSlot; dsimp only; split_ifs <;> simp
@[simp] theorem tripSlot_unheard (g : Setting) (a : State) (n : Nat) (k : Slot) :
    (tripSlot g a n k s).lc.unheard = s.lc.unheard := by
  unfold tripSlot; dsimp only; split_ifs <;> simp
@[simp] theorem tripSlot_idleNeed (g : Setting) (a : State) (n : Nat) (k : Slot) :
    (tripSlot g a n k s).lc.idleNeed = s.lc.idleNeed := by
  unfold tripSlot; dsimp only; split_ifs <;> simp
@[simp] theorem tripSlot_idleCount (g : Setting) (a : State) (n : Nat) (k : Slot) :
    (tripSlot g a n k s).lc.idleCount = s.lc.idleCount := by
  unfold tripSlot; dsimp only; split_ifs <;> simp
@[simp] theorem tripSlot_phase (g : Setting) (a : State) (n : Nat) (k : Slot) :
    (tripSlot g a n k s).lc.phase = s.lc.phase := by
  unfold tripSlot; dsimp only; split_ifs <;> simp
@[simp] theorem tripSlot_breakSeen (g : Setting) (a : State) (n : Nat) (k : Slot) :
    (tripSlot g a n k s).lc.breakSeen = s.lc.breakSeen := by
  unfold tripSlot; dsimp only; split_ifs <;> simp
@[simp] theorem tripSlot_breakRun (g : Setting) (a : State) (n : Nat) (k : Slot) :
    (tripSlot g a n k s).lc.breakRun = s.lc.breakRun := by
  unfold tripSlot; dsimp only; split_ifs <;> simp
@[simp] theorem tripSlot_beaconTimer (g : Setting) (a : State) (n : Nat) (k : Slot) :
    (tripSlot g a n k s).lc.beaconTimer = s.lc.beaconTimer := by
  unfold tripSlot; dsimp only; split_ifs <;> simp
@[simp] theorem tripSlot_beaconPeriod (g : Setting) (a : State) (n : Nat) (k : Slot) :
    (tripSlot g a n k s).lc.beaconPeriod = s.lc.beaconPeriod := by
  unfold tripSlot; dsimp only; split_ifs <;> simp
@[simp] theorem tripSlot_ackDriven (g : Setting) (a : State) (n : Nat) (k : Slot) :
    (tripSlot g a n k s).lc.ackDriven = s.lc.ackDriven := by
  unfold tripSlot; dsimp only; split_ifs <;> simp
@[simp] theorem tripSlot_holdDriven (g : Setting) (a : State) (n : Nat) (k : Slot) :
    (tripSlot g a n k s).lc.holdDriven = s.lc.holdDriven := by
  unfold tripSlot; dsimp only; split_ifs <;> simp

@[simp] theorem testSlot_now (g : Setting) (a : State) (m : MeasFrame) (k : Slot) :
    (testSlot g a m s k).now = s.now := by
  unfold testSlot; dsimp only; split_ifs <;> simp
@[simp] theorem testSlot_mi (g : Setting) (a : State) (m : MeasFrame) (k : Slot) :
    (testSlot g a m s k).mi = s.mi := by
  unfold testSlot; dsimp only; split_ifs <;> simp
@[simp] theorem testSlot_nt (g : Setting) (a : State) (m : MeasFrame) (k : Slot) :
    (testSlot g a m s k).nt = s.nt := by
  unfold testSlot; dsimp only; split_ifs <;> simp
@[simp] theorem testSlot_cu (g : Setting) (a : State) (m : MeasFrame) (k : Slot) :
    (testSlot g a m s k).cu = s.cu := by
  unfold testSlot; dsimp only; split_ifs <;> simp
@[simp] theorem testSlot_pending (g : Setting) (a : State) (m : MeasFrame) (k : Slot) :
    (testSlot g a m s k).pending = s.pending := by
  unfold testSlot; dsimp only; split_ifs <;> simp
@[simp] theorem testSlot_inUse (g : Setting) (a : State) (m : MeasFrame) (k : Slot) :
    (testSlot g a m s k).lc.inUse = s.lc.inUse := by
  unfold testSlot; dsimp only; split_ifs <;> simp
@[simp] theorem testSlot_rate (g : Setting) (a : State) (m : MeasFrame) (k : Slot) :
    (testSlot g a m s k).lc.rate = s.lc.rate := by
  unfold testSlot; dsimp only; split_ifs <;> simp
@[simp] theorem testSlot_mode (g : Setting) (a : State) (m : MeasFrame) (k : Slot) :
    (testSlot g a m s k).lc.mode = s.lc.mode := by
  unfold testSlot; dsimp only; split_ifs <;> simp
@[simp] theorem testSlot_txErrors (g : Setting) (a : State) (m : MeasFrame) (k : Slot) :
    (testSlot g a m s k).lc.txErrors = s.lc.txErrors := by
  unfold testSlot; dsimp only; split_ifs <;> simp
@[simp] theorem testSlot_coolLength (g : Setting) (a : State) (m : MeasFrame) (k : Slot) :
    (testSlot g a m s k).lc.coolLength = s.lc.coolLength := by
  unfold testSlot; dsimp only; split_ifs <;> simp
@[simp] theorem testSlot_coolTimer (g : Setting) (a : State) (m : MeasFrame) (k : Slot) :
    (testSlot g a m s k).lc.coolTimer = s.lc.coolTimer := by
  unfold testSlot; dsimp only; split_ifs <;> simp
@[simp] theorem testSlot_rxQueue (g : Setting) (a : State) (m : MeasFrame) (k : Slot) :
    (testSlot g a m s k).lc.rxQueue = s.lc.rxQueue := by
  unfold testSlot; dsimp only; split_ifs <;> simp
@[simp] theorem testSlot_lastBreak (g : Setting) (a : State) (m : MeasFrame) (k : Slot) :
    (testSlot g a m s k).lc.lastBreak = s.lc.lastBreak := by
  unfold testSlot; dsimp only; split_ifs <;> simp
@[simp] theorem testSlot_window (g : Setting) (a : State) (m : MeasFrame) (k : Slot) :
    (testSlot g a m s k).lc.window = s.lc.window := by
  unfold testSlot; dsimp only; split_ifs <;> simp
@[simp] theorem testSlot_unheard (g : Setting) (a : State) (m : MeasFrame) (k : Slot) :
    (testSlot g a m s k).lc.unheard = s.lc.unheard := by
  unfold testSlot; dsimp only; split_ifs <;> simp
@[simp] theorem testSlot_idleNeed (g : Setting) (a : State) (m : MeasFrame) (k : Slot) :
    (testSlot g a m s k).lc.idleNeed = s.lc.idleNeed := by
  unfold testSlot; dsimp only; split_ifs <;> simp
@[simp] theorem testSlot_idleCount (g : Setting) (a : State) (m : MeasFrame) (k : Slot) :
    (testSlot g a m s k).lc.idleCount = s.lc.idleCount := by
  unfold testSlot; dsimp only; split_ifs <;> simp
@[simp] theorem testSlot_phase (g : Setting) (a : State) (m : MeasFrame) (k : Slot) :
    (testSlot g a m s k).lc.phase = s.lc.phase := by
  unfold testSlot; dsimp only; split_ifs <;> simp
@[simp] theorem testSlot_breakSeen (g : Setting) (a : State) (m : MeasFrame) (k : Slot) :
    (testSlot g a m s k).lc.breakSeen = s.lc.breakSeen := by
  unfold testSlot; dsimp only; split_ifs <;> simp
@[simp] theorem testSlot_breakRun (g : Setting) (a : State) (m : MeasFrame) (k : Slot) :
    (testSlot g a m s k).lc.breakRun = s.lc.breakRun := by
  unfold testSlot; dsimp only; split_ifs <;> simp
@[simp] theorem testSlot_beaconTimer (g : Setting) (a : State) (m : MeasFrame) (k : Slot) :
    (testSlot g a m s k).lc.beaconTimer = s.lc.beaconTimer := by
  unfold testSlot; dsimp only; split_ifs <;> simp
@[simp] theorem testSlot_beaconPeriod (g : Setting) (a : State) (m : MeasFrame) (k : Slot) :
    (testSlot g a m s k).lc.beaconPeriod = s.lc.beaconPeriod := by
  unfold testSlot; dsimp only; split_ifs <;> simp
@[simp] theorem testSlot_ackDriven (g : Setting) (a : State) (m : MeasFrame) (k : Slot) :
    (testSlot g a m s k).lc.ackDriven = s.lc.ackDriven := by
  unfold testSlot; dsimp only; split_ifs <;> simp
@[simp] theorem testSlot_holdDriven (g : Setting) (a : State) (m : MeasFrame) (k : Slot) :
    (testSlot g a m s k).lc.holdDriven = s.lc.holdDriven := by
  unfold testSlot; dsimp only; split_ifs <;> simp

@[simp] theorem latchAntenna_now (g : Setting) (m : MeasFrame) : (latchAntenna g m s).now = s.now := by
  unfold latchAntenna; simp
@[simp] theorem latchAntenna_mi (g : Setting) (m : MeasFrame) : (latchAntenna g m s).mi = s.mi := by
  unfold latchAntenna; simp
@[simp] theorem latchAntenna_nt (g : Setting) (m : MeasFrame) : (latchAntenna g m s).nt = s.nt := by
  unfold latchAntenna; simp
@[simp] theorem latchAntenna_cu (g : Setting) (m : MeasFrame) : (latchAntenna g m s).cu = s.cu := by
  unfold latchAntenna; simp
@[simp] theorem latchAntenna_pending (g : Setting) (m : MeasFrame) : (latchAntenna g m s).pending = s.pending := by
  unfold latchAntenna; simp
@[simp] theorem latchAntenna_inUse (g : Setting) (m : MeasFrame) : (latchAntenna g m s).lc.inUse = s.lc.inUse := by
  unfold latchAntenna; simp
@[simp] theorem latchAntenna_rate (g : Setting) (m : MeasFrame) : (latchAntenna g m s).lc.rate = s.lc.rate := by
  unfold latchAntenna; simp
@[simp] theorem latchAntenna_mode (g : Setting) (m : MeasFrame) : (latchAntenna g m s).lc.mode = s.lc.mode := by
  unfold latchAntenna; simp
@[simp] theorem latchAntenna_txErrors (g : Setting) (m : MeasFrame) :
    (latchAntenna g m s).lc.txErrors = s.lc.txErrors := by
  unfold latchAntenna; simp
@[simp] theorem latchAntenna_coolLength (g : Setting) (m : MeasFrame) :
    (latchAntenna g m s).lc.coolLength = s.lc.coolLength := by
  unfold latchAntenna; simp
@[simp] theorem latchAntenna_coolTimer (g : Setting) (m : MeasFrame) :
    (latchAntenna g m s).lc.coolTimer = s.lc.coolTimer := by
  unfold latchAntenna; simp
@[simp] theorem latchAntenna_rxQueue (g : Setting) (m : MeasFrame) :
    (latchAntenna g m s).lc.rxQueue = s.lc.rxQueue := by
  unfold latchAntenna; simp
@[simp] theorem latchAntenna_lastBreak (g : Setting) (m : MeasFrame) :
    (latchAntenna g m s).lc.lastBreak = s.lc.lastBreak := by
  unfold latchAntenna; simp
@[simp] theorem latchAntenna_window (g : Setting) (m : MeasFrame) : (latchAntenna g m s).lc.window = s.lc.window := by
  unfold latchAntenna; simp
@[simp] theorem latchAntenna_unheard (g : Setting) (m : MeasFrame) :
    (latchAntenna g m s).lc.unheard = s.lc.unheard := by
  unfold latchAntenna; simp
@[simp] theorem latchAntenna_idleNeed (g : Setting) (m : MeasFrame) :
    (latchAntenna g m s).lc.idleNeed = s.lc.idleNeed := by
  unfold latchAntenna; simp
@[simp] theorem latchAntenna_idleCount (g : Setting) (m : MeasFrame) :
    (latchAntenna g m s).lc.idleCount = s.lc.idleCount := by
  unfold latchAntenna; simp
@[simp] theorem latchAntenna_phase (g : Setting) (m : MeasFrame) : (latchAntenna g m s).lc.phase = s.lc.phase := by
  unfold latchAntenna; simp
@[simp] theorem latchAntenna_breakSeen (g : Setting) (m : MeasFrame) :
    (latchAntenna g m s).lc.breakSeen = s.lc.breakSeen := by
  unfold latchAntenna; simp
@[simp] theorem latchAntenna_breakRun (g : Setting) (m : MeasFrame) :
    (latchAntenna g m s).lc.breakRun = s.lc.breakRun := by
  unfold latchAntenna; simp
@[simp] theorem latchAntenna_beaconTimer (g : Setting) (m : MeasFrame) :
    (latchAntenna g m s).lc.beaconTimer = s.lc.beaconTimer := by
  unfold latchAntenna; simp
@[simp] theorem latchAntenna_beaconPeriod (g : Setting) (m : MeasFrame) :
    (latchAntenna g m s).lc.beaconPeriod = s.lc.beaconPeriod := by
  unfold latchAntenna; simp
@[simp] theorem latchAntenna_ackDriven (g : Setting) (m : MeasFrame) :
    (latchAntenna g m s).lc.ackDriven = s.lc.ackDriven := by
  unfold latchAntenna; simp
@[simp] theorem latchAntenna_holdDriven (g : Setting) (m : MeasFrame) :
    (latchAntenna g m s).lc.holdDriven = s.lc.holdDriven := by
  unfold latchAntenna; simp

@[simp] theorem testAntenna_now (g : Setting) (a : State) (m : MeasFrame) : (testAntenna g a m s).now = s.now := by
  unfold testAntenna; split_ifs <;> simp
@[simp] theorem testAntenna_mi (g : Setting) (a : State) (m : MeasFrame) : (testAntenna g a m s).mi = s.mi := by
  unfold testAntenna; split_ifs <;> simp
@[simp] theorem testAntenna_nt (g : Setting) (a : State) (m : MeasFrame) : (testAntenna g a m s).nt = s.nt := by
  unfold testAntenna; split_ifs <;> simp
@[simp] theorem testAntenna_cu (g : Setting) (a : State) (m : MeasFrame) : (testAntenna g a m s).cu = s.cu := by
  unfold testAntenna; split_ifs <;> simp
@[simp] theorem testAntenna_pending (g : Setting) (a : State) (m : MeasFrame) :
    (testAntenna g a m s).pending = s.pending := by
  unfold testAntenna; split_ifs <;> simp
@[simp] theorem testAntenna_inUse (g : Setting) (a : State) (m : MeasFrame) :
    (testAntenna g a m s).lc.inUse = s.lc.inUse := by
  unfold testAntenna; split_ifs <;> simp
@[simp] theorem testAntenna_rate (g : Setting) (a : State) (m : MeasFrame) :
    (testAntenna g a m s).lc.rate = s.lc.rate := by
  unfold testAntenna; split_ifs <;> simp
@[simp] theorem testAntenna_mode (g : Setting) (a : State) (m : MeasFrame) :
    (testAntenna g a m s).lc.mode = s.lc.mode := by
  unfold testAntenna; split_ifs <;> simp
@[simp] theorem testAntenna_txErrors (g : Setting) (a : State) (m : MeasFrame) :
    (testAntenna g a m s).lc.txErrors = s.lc.txErrors := by
  unfold testAntenna; split_ifs <;> simp
@[simp] theorem testAntenna_coolLength (g : Setting) (a : State) (m : MeasFrame) :
    (testAntenna g a m s).lc.coolLength = s.lc.coolLength := by
  unfold testAntenna; split_ifs <;> simp
@[simp] theorem testAntenna_coolTimer (g : Setting) (a : State) (m : MeasFrame) :
    (testAntenna g a m s).lc.coolTimer = s.lc.coolTimer := by
  unfold testAntenna; split_ifs <;> simp
@[simp] theorem testAntenna_rxQueue (g : Setting) (a : State) (m : MeasFrame) :
    (testAntenna g a m s).lc.rxQueue = s.lc.rxQueue := by
  unfold testAntenna; split_ifs <;> simp
@[simp] theorem testAntenna_lastBreak (g : Setting) (a : State) (m : MeasFrame) :
    (testAntenna g a m s).lc.lastBreak = s.lc.lastBreak := by
  unfold testAntenna; split_ifs <;> simp
@[simp] theorem testAntenna_window (g : Setting) (a : State) (m : MeasFrame) :
    (testAntenna g a m s).lc.window = s.lc.window := by
  unfold testAntenna; split_ifs <;> simp
@[simp] theorem testAntenna_unheard (g : Setting) (a : State) (m : MeasFrame) :
    (testAntenna g a m s).lc.unheard = s.lc.unheard := by
  unfold testAntenna; split_ifs <;> simp
@[simp] theorem testAntenna_idleNeed (g : Setting) (a : State) (m : MeasFrame) :
    (testAntenna g a m s).lc.idleNeed = s.lc.idleNeed := by
  unfold testAntenna; split_ifs <;> simp
@[simp] theorem testAntenna_idleCount (g : Setting) (a : State) (m : MeasFrame) :
    (testAntenna g a m s).lc.idleCount = s.lc.idleCount := by
  unfold testAntenna; split_ifs <;> simp
@[simp] theorem testAntenna_phase (g : Setting) (a : State) (m : MeasFrame) :
    (testAntenna g a m s).lc.phase = s.lc.phase := by
  unfold testAntenna; split_ifs <;> simp
@[simp] theorem testAntenna_breakSeen (g : Setting) (a : State) (m : MeasFrame) :
    (testAntenna g a m s).lc.breakSeen = s.lc.breakSeen := by
  unfold testAntenna; split_ifs <;> simp
@[simp] theorem testAntenna_breakRun (g : Setting) (a : State) (m : MeasFrame) :
    (testAntenna g a m s).lc.breakRun = s.lc.breakRun := by
  unfold testAntenna; split_ifs <;> simp
@[simp] theorem testAntenna_beaconTimer (g : Setting) (a : State) (m : MeasFrame) :
    (testAntenna g a m s).lc.beaconTimer = s.lc.beaconTimer := by
  unfold testAntenna; split_ifs <;> simp
@[simp] theorem testAntenna_beaconPeriod (g : Setting) (a : State) (m : MeasFrame) :
    (testAntenna g a m s).lc.beaconPeriod = s.lc.beaconPeriod := by
  unfold testAntenna; split_ifs <;> simp
@[simp] theorem testAntenna_ackDriven (g : Setting) (a : State) (m : MeasFrame) :
    (testAntenna g a m s).lc.ackDriven = s.lc.ackDriven := by
  unfold testAntenna; split_ifs <;> simp
@[simp] theorem testAntenna_holdDriven (g : Setting) (a : State) (m : MeasFrame) :
    (testAntenna g a m s).lc.holdDriven = s.lc.holdDriven := by
  unfold testAntenna; split_ifs <;> simp

@[simp] theorem protect_now (m : MeasFrame) : (protect m s).now = s.now := by
  unfold protect; dsimp only; split <;> simp [Slot.all]
@[simp] theorem protect_mi (m : MeasFrame) : (protect m s).mi = s.mi := by
  unfold protect; dsimp only; split <;> simp [Slot.all]
@[simp] theorem protect_nt (m : MeasFrame) : (protect m s).nt = s.nt := by
  unfold protect; dsimp only; split <;> simp [Slot.all]
@[simp] theorem protect_cu (m : MeasFrame) : (protect m s).cu = s.cu := by
  unfold protect; dsimp only; split <;> simp [Slot.all]
@[simp] theorem protect_pending (m : MeasFrame) : (protect m s).pending = s.pending := by
  unfold protect; dsimp only; split <;> simp [Slot.all]
@[simp] theorem protect_inUse (m : MeasFrame) : (protect m s).lc.inUse = s.lc.inUse := by
  unfold protect; dsimp only; split <;> simp [Slot.all]
@[simp] theorem protect_rate (m : MeasFrame) : (protect m s).lc.rate = s.lc.rate := by
  unfold protect; dsimp only; split <;> simp [Slot.all]
@[simp] theorem protect_mode (m : MeasFrame) : (protect m s).lc.mode = s.lc.mode := by
  unfold protect; dsimp only; split <;> simp [Slot.all]
@[simp] theorem protect_txErrors (m : MeasFrame) : (protect m s).lc.txErrors = s.lc.txErrors := by
  unfold protect; dsimp only; split <;> simp [Slot.all]
@[simp] theorem protect_coolLength (m : MeasFrame) : (protect m s).lc.coolLength = s.lc.coolLength := by
  unfold protect; dsimp only; split <;> simp [Slot.all]
@[simp] theorem protect_coolTimer (m : MeasFrame) : (protect m s).lc.coolTimer = s.lc.coolTimer := by
  unfold protect; dsimp only; split <;> simp [Slot.all]
@[simp] theorem protect_rxQueue (m : MeasFrame) : (protect m s).lc.rxQueue = s.lc.rxQueue := by
  unfold protect; dsimp only; split <;> simp [Slot.all]
@[simp] theorem protect_lastBreak (m : MeasFrame) : (protect m s).lc.lastBreak = s.lc.lastBreak := by
  unfold protect; dsimp only; split <;> simp [Slot.all]
@[simp] theorem protect_window (m : MeasFrame) : (protect m s).lc.window = s.lc.window := by
  unfold protect; dsimp only; split <;> simp [Slot.all]
@[simp] theorem protect_unheard (m : MeasFrame) : (protect m s).lc.unheard = s.lc.unheard := by
  unfold protect; dsimp only; split <;> simp [Slot.all]
@[simp] theorem protect_idleNeed (m : MeasFrame) : (protect m s).lc.idleNeed = s.lc.idleNeed := by
  unfold protect; dsimp only; split <;> simp [Slot.all]
@[simp] theorem protect_idleCount (m : MeasFrame) : (protect m s).lc.idleCount = s.lc.idleCount := by
  unfold protect; dsimp only; split <;> simp [Slot.all]
@[simp] theorem protect_phase (m : MeasFrame) : (protect m s).lc.phase = s.lc.phase := by
  unfold protect; dsimp only; split <;> simp [Slot.all]
@[simp] theorem protect_breakSeen (m : MeasFrame) : (protect m s).lc.breakSeen = s.lc.breakSeen := by
  unfold protect; dsimp only; split <;> simp [Slot.all]
@[simp] theorem protect_breakRun (m : MeasFrame) : (protect m s).lc.breakRun = s.lc.breakRun := by
  unfold protect; dsimp only; split <;> simp [Slot.all]
@[simp] theorem protect_beaconTimer (m : MeasFrame) : (protect m s).lc.beaconTimer = s.lc.beaconTimer := by
  unfold protect; dsimp only; split <;> simp [Slot.all]
@[simp] theorem protect_beaconPeriod (m : MeasFrame) : (protect m s).lc.beaconPeriod = s.lc.beaconPeriod := by
  unfold protect; dsimp only; split <;> simp [Slot.all]
@[simp] theorem protect_ackDriven (m : MeasFrame) : (protect m s).lc.ackDriven = s.lc.ackDriven := by
  unfold protect; dsimp only; split <;> simp [Slot.all]
@[simp] theorem protect_holdDriven (m : MeasFrame) : (protect m s).lc.holdDriven = s.lc.holdDriven := by
  unfold protect; dsimp only; split <;> simp [Slot.all]

@[simp] theorem reportDerate_now (g : Setting) (x y : Nat) (t : Int) : (reportDerate g x y t s).now = s.now := by
  unfold reportDerate; split_ifs <;> simp
@[simp] theorem reportDerate_mi (g : Setting) (x y : Nat) (t : Int) : (reportDerate g x y t s).mi = s.mi := by
  unfold reportDerate; split_ifs <;> simp
@[simp] theorem reportDerate_nt (g : Setting) (x y : Nat) (t : Int) : (reportDerate g x y t s).nt = s.nt := by
  unfold reportDerate; split_ifs <;> simp
@[simp] theorem reportDerate_cu (g : Setting) (x y : Nat) (t : Int) : (reportDerate g x y t s).cu = s.cu := by
  unfold reportDerate; split_ifs <;> simp
@[simp] theorem reportDerate_pending (g : Setting) (x y : Nat) (t : Int) :
    (reportDerate g x y t s).pending = s.pending := by
  unfold reportDerate; split_ifs <;> simp
@[simp] theorem reportDerate_inUse (g : Setting) (x y : Nat) (t : Int) :
    (reportDerate g x y t s).lc.inUse = s.lc.inUse := by
  unfold reportDerate; split_ifs <;> simp
@[simp] theorem reportDerate_rate (g : Setting) (x y : Nat) (t : Int) :
    (reportDerate g x y t s).lc.rate = s.lc.rate := by
  unfold reportDerate; split_ifs <;> simp
@[simp] theorem reportDerate_mode (g : Setting) (x y : Nat) (t : Int) :
    (reportDerate g x y t s).lc.mode = s.lc.mode := by
  unfold reportDerate; split_ifs <;> simp
@[simp] theorem reportDerate_txErrors (g : Setting) (x y : Nat) (t : Int) :
    (reportDerate g x y t s).lc.txErrors = s.lc.txErrors := by
  unfold reportDerate; split_ifs <;> simp
@[simp] theorem reportDerate_coolLength (g : Setting) (x y : Nat) (t : Int) :
    (reportDerate g x y t s).lc.coolLength = s.lc.coolLength := by
  unfold reportDerate; split_ifs <;> simp
@[simp] theorem reportDerate_coolTimer (g : Setting) (x y : Nat) (t : Int) :
    (reportDerate g x y t s).lc.coolTimer = s.lc.coolTimer := by
  unfold reportDerate; split_ifs <;> simp
@[simp] theorem reportDerate_rxQueue (g : Setting) (x y : Nat) (t : Int) :
    (reportDerate g x y t s).lc.rxQueue = s.lc.rxQueue := by
  unfold reportDerate; split_ifs <;> simp
@[simp] theorem reportDerate_lastBreak (g : Setting) (x y : Nat) (t : Int) :
    (reportDerate g x y t s).lc.lastBreak = s.lc.lastBreak := by
  unfold reportDerate; split_ifs <;> simp
@[simp] theorem reportDerate_window (g : Setting) (x y : Nat) (t : Int) :
    (reportDerate g x y t s).lc.window = s.lc.window := by
  unfold reportDerate; split_ifs <;> simp
@[simp] theorem reportDerate_unheard (g : Setting) (x y : Nat) (t : Int) :
    (reportDerate g x y t s).lc.unheard = s.lc.unheard := by
  unfold reportDerate; split_ifs <;> simp
@[simp] theorem reportDerate_idleNeed (g : Setting) (x y : Nat) (t : Int) :
    (reportDerate g x y t s).lc.idleNeed = s.lc.idleNeed := by
  unfold reportDerate; split_ifs <;> simp
@[simp] theorem reportDerate_idleCount (g : Setting) (x y : Nat) (t : Int) :
    (reportDerate g x y t s).lc.idleCount = s.lc.idleCount := by
  unfold reportDerate; split_ifs <;> simp
@[simp] theorem reportDerate_phase (g : Setting) (x y : Nat) (t : Int) :
    (reportDerate g x y t s).lc.phase = s.lc.phase := by
  unfold reportDerate; split_ifs <;> simp
@[simp] theorem reportDerate_breakSeen (g : Setting) (x y : Nat) (t : Int) :
    (reportDerate g x y t s).lc.breakSeen = s.lc.breakSeen := by
  unfold reportDerate; split_ifs <;> simp
@[simp] theorem reportDerate_breakRun (g : Setting) (x y : Nat) (t : Int) :
    (reportDerate g x y t s).lc.breakRun = s.lc.breakRun := by
  unfold reportDerate; split_ifs <;> simp
@[simp] theorem reportDerate_beaconTimer (g : Setting) (x y : Nat) (t : Int) :
    (reportDerate g x y t s).lc.beaconTimer = s.lc.beaconTimer := by
  unfold reportDerate; split_ifs <;> simp
@[simp] theorem reportDerate_beaconPeriod (g : Setting) (x y : Nat) (t : Int) :
    (reportDerate g x y t s).lc.beaconPeriod = s.lc.beaconPeriod := by
  unfold reportDerate; split_ifs <;> simp
@[simp] theorem reportDerate_ackDriven (g : Setting) (x y : Nat) (t : Int) :
    (reportDerate g x y t s).lc.ackDriven = s.lc.ackDriven := by
  unfold reportDerate; split_ifs <;> simp
@[simp] theorem reportDerate_holdDriven (g : Setting) (x y : Nat) (t : Int) :
    (reportDerate g x y t s).lc.holdDriven = s.lc.holdDriven := by
  unfold reportDerate; split_ifs <;> simp

@[simp] theorem reportMute_now (g : Setting) (x y : Bool) (t : Int) : (reportMute g x y t s).now = s.now := by
  unfold reportMute; split_ifs <;> simp
@[simp] theorem reportMute_mi (g : Setting) (x y : Bool) (t : Int) : (reportMute g x y t s).mi = s.mi := by
  unfold reportMute; split_ifs <;> simp
@[simp] theorem reportMute_nt (g : Setting) (x y : Bool) (t : Int) : (reportMute g x y t s).nt = s.nt := by
  unfold reportMute; split_ifs <;> simp
@[simp] theorem reportMute_cu (g : Setting) (x y : Bool) (t : Int) : (reportMute g x y t s).cu = s.cu := by
  unfold reportMute; split_ifs <;> simp
@[simp] theorem reportMute_pending (g : Setting) (x y : Bool) (t : Int) :
    (reportMute g x y t s).pending = s.pending := by
  unfold reportMute; split_ifs <;> simp
@[simp] theorem reportMute_inUse (g : Setting) (x y : Bool) (t : Int) :
    (reportMute g x y t s).lc.inUse = s.lc.inUse := by
  unfold reportMute; split_ifs <;> simp
@[simp] theorem reportMute_rate (g : Setting) (x y : Bool) (t : Int) :
    (reportMute g x y t s).lc.rate = s.lc.rate := by
  unfold reportMute; split_ifs <;> simp
@[simp] theorem reportMute_mode (g : Setting) (x y : Bool) (t : Int) :
    (reportMute g x y t s).lc.mode = s.lc.mode := by
  unfold reportMute; split_ifs <;> simp
@[simp] theorem reportMute_txErrors (g : Setting) (x y : Bool) (t : Int) :
    (reportMute g x y t s).lc.txErrors = s.lc.txErrors := by
  unfold reportMute; split_ifs <;> simp
@[simp] theorem reportMute_coolLength (g : Setting) (x y : Bool) (t : Int) :
    (reportMute g x y t s).lc.coolLength = s.lc.coolLength := by
  unfold reportMute; split_ifs <;> simp
@[simp] theorem reportMute_coolTimer (g : Setting) (x y : Bool) (t : Int) :
    (reportMute g x y t s).lc.coolTimer = s.lc.coolTimer := by
  unfold reportMute; split_ifs <;> simp
@[simp] theorem reportMute_rxQueue (g : Setting) (x y : Bool) (t : Int) :
    (reportMute g x y t s).lc.rxQueue = s.lc.rxQueue := by
  unfold reportMute; split_ifs <;> simp
@[simp] theorem reportMute_lastBreak (g : Setting) (x y : Bool) (t : Int) :
    (reportMute g x y t s).lc.lastBreak = s.lc.lastBreak := by
  unfold reportMute; split_ifs <;> simp
@[simp] theorem reportMute_window (g : Setting) (x y : Bool) (t : Int) :
    (reportMute g x y t s).lc.window = s.lc.window := by
  unfold reportMute; split_ifs <;> simp
@[simp] theorem reportMute_unheard (g : Setting) (x y : Bool) (t : Int) :
    (reportMute g x y t s).lc.unheard = s.lc.unheard := by
  unfold reportMute; split_ifs <;> simp
@[simp] theorem reportMute_idleNeed (g : Setting) (x y : Bool) (t : Int) :
    (reportMute g x y t s).lc.idleNeed = s.lc.idleNeed := by
  unfold reportMute; split_ifs <;> simp
@[simp] theorem reportMute_idleCount (g : Setting) (x y : Bool) (t : Int) :
    (reportMute g x y t s).lc.idleCount = s.lc.idleCount := by
  unfold reportMute; split_ifs <;> simp
@[simp] theorem reportMute_phase (g : Setting) (x y : Bool) (t : Int) :
    (reportMute g x y t s).lc.phase = s.lc.phase := by
  unfold reportMute; split_ifs <;> simp
@[simp] theorem reportMute_breakSeen (g : Setting) (x y : Bool) (t : Int) :
    (reportMute g x y t s).lc.breakSeen = s.lc.breakSeen := by
  unfold reportMute; split_ifs <;> simp
@[simp] theorem reportMute_breakRun (g : Setting) (x y : Bool) (t : Int) :
    (reportMute g x y t s).lc.breakRun = s.lc.breakRun := by
  unfold reportMute; split_ifs <;> simp
@[simp] theorem reportMute_beaconTimer (g : Setting) (x y : Bool) (t : Int) :
    (reportMute g x y t s).lc.beaconTimer = s.lc.beaconTimer := by
  unfold reportMute; split_ifs <;> simp
@[simp] theorem reportMute_beaconPeriod (g : Setting) (x y : Bool) (t : Int) :
    (reportMute g x y t s).lc.beaconPeriod = s.lc.beaconPeriod := by
  unfold reportMute; split_ifs <;> simp
@[simp] theorem reportMute_ackDriven (g : Setting) (x y : Bool) (t : Int) :
    (reportMute g x y t s).lc.ackDriven = s.lc.ackDriven := by
  unfold reportMute; split_ifs <;> simp
@[simp] theorem reportMute_holdDriven (g : Setting) (x y : Bool) (t : Int) :
    (reportMute g x y t s).lc.holdDriven = s.lc.holdDriven := by
  unfold reportMute; split_ifs <;> simp

@[simp] theorem thermal_now (g : Setting) (t : Int) : (thermal g t s).now = s.now := by
  unfold thermal; dsimp only; split_ifs <;> simp
@[simp] theorem thermal_nt (g : Setting) (t : Int) : (thermal g t s).nt = s.nt := by
  unfold thermal; dsimp only; split_ifs <;> simp
@[simp] theorem thermal_cu (g : Setting) (t : Int) : (thermal g t s).cu = s.cu := by
  unfold thermal; dsimp only; split_ifs <;> simp
@[simp] theorem thermal_pending (g : Setting) (t : Int) : (thermal g t s).pending = s.pending := by
  unfold thermal; dsimp only; split_ifs <;> simp
@[simp] theorem thermal_inUse (g : Setting) (t : Int) : (thermal g t s).lc.inUse = s.lc.inUse := by
  unfold thermal; dsimp only; split_ifs <;> simp
@[simp] theorem thermal_rate (g : Setting) (t : Int) : (thermal g t s).lc.rate = s.lc.rate := by
  unfold thermal; dsimp only; split_ifs <;> simp
@[simp] theorem thermal_mode (g : Setting) (t : Int) : (thermal g t s).lc.mode = s.lc.mode := by
  unfold thermal; dsimp only; split_ifs <;> simp
@[simp] theorem thermal_txErrors (g : Setting) (t : Int) : (thermal g t s).lc.txErrors = s.lc.txErrors := by
  unfold thermal; dsimp only; split_ifs <;> simp
@[simp] theorem thermal_coolLength (g : Setting) (t : Int) : (thermal g t s).lc.coolLength = s.lc.coolLength := by
  unfold thermal; dsimp only; split_ifs <;> simp
@[simp] theorem thermal_coolTimer (g : Setting) (t : Int) : (thermal g t s).lc.coolTimer = s.lc.coolTimer := by
  unfold thermal; dsimp only; split_ifs <;> simp
@[simp] theorem thermal_rxQueue (g : Setting) (t : Int) : (thermal g t s).lc.rxQueue = s.lc.rxQueue := by
  unfold thermal; dsimp only; split_ifs <;> simp
@[simp] theorem thermal_lastBreak (g : Setting) (t : Int) : (thermal g t s).lc.lastBreak = s.lc.lastBreak := by
  unfold thermal; dsimp only; split_ifs <;> simp
@[simp] theorem thermal_window (g : Setting) (t : Int) : (thermal g t s).lc.window = s.lc.window := by
  unfold thermal; dsimp only; split_ifs <;> simp
@[simp] theorem thermal_unheard (g : Setting) (t : Int) : (thermal g t s).lc.unheard = s.lc.unheard := by
  unfold thermal; dsimp only; split_ifs <;> simp
@[simp] theorem thermal_idleNeed (g : Setting) (t : Int) : (thermal g t s).lc.idleNeed = s.lc.idleNeed := by
  unfold thermal; dsimp only; split_ifs <;> simp
@[simp] theorem thermal_idleCount (g : Setting) (t : Int) : (thermal g t s).lc.idleCount = s.lc.idleCount := by
  unfold thermal; dsimp only; split_ifs <;> simp
@[simp] theorem thermal_phase (g : Setting) (t : Int) : (thermal g t s).lc.phase = s.lc.phase := by
  unfold thermal; dsimp only; split_ifs <;> simp
@[simp] theorem thermal_breakSeen (g : Setting) (t : Int) : (thermal g t s).lc.breakSeen = s.lc.breakSeen := by
  unfold thermal; dsimp only; split_ifs <;> simp
@[simp] theorem thermal_breakRun (g : Setting) (t : Int) : (thermal g t s).lc.breakRun = s.lc.breakRun := by
  unfold thermal; dsimp only; split_ifs <;> simp
@[simp] theorem thermal_beaconTimer (g : Setting) (t : Int) : (thermal g t s).lc.beaconTimer = s.lc.beaconTimer := by
  unfold thermal; dsimp only; split_ifs <;> simp
@[simp] theorem thermal_beaconPeriod (g : Setting) (t : Int) :
    (thermal g t s).lc.beaconPeriod = s.lc.beaconPeriod := by
  unfold thermal; dsimp only; split_ifs <;> simp
@[simp] theorem thermal_ackDriven (g : Setting) (t : Int) : (thermal g t s).lc.ackDriven = s.lc.ackDriven := by
  unfold thermal; dsimp only; split_ifs <;> simp
@[simp] theorem thermal_holdDriven (g : Setting) (t : Int) : (thermal g t s).lc.holdDriven = s.lc.holdDriven := by
  unfold thermal; dsimp only; split_ifs <;> simp

@[simp] theorem thermalWork_now (m : MeasFrame) : (thermalWork m s).now = s.now := by
  unfold thermalWork; split <;> simp
@[simp] theorem thermalWork_nt (m : MeasFrame) : (thermalWork m s).nt = s.nt := by
  unfold thermalWork; split <;> simp
@[simp] theorem thermalWork_cu (m : MeasFrame) : (thermalWork m s).cu = s.cu := by
  unfold thermalWork; split <;> simp
@[simp] theorem thermalWork_pending (m : MeasFrame) : (thermalWork m s).pending = s.pending := by
  unfold thermalWork; split <;> simp
@[simp] theorem thermalWork_inUse (m : MeasFrame) : (thermalWork m s).lc.inUse = s.lc.inUse := by
  unfold thermalWork; split <;> simp
@[simp] theorem thermalWork_rate (m : MeasFrame) : (thermalWork m s).lc.rate = s.lc.rate := by
  unfold thermalWork; split <;> simp
@[simp] theorem thermalWork_mode (m : MeasFrame) : (thermalWork m s).lc.mode = s.lc.mode := by
  unfold thermalWork; split <;> simp
@[simp] theorem thermalWork_txErrors (m : MeasFrame) : (thermalWork m s).lc.txErrors = s.lc.txErrors := by
  unfold thermalWork; split <;> simp
@[simp] theorem thermalWork_coolLength (m : MeasFrame) : (thermalWork m s).lc.coolLength = s.lc.coolLength := by
  unfold thermalWork; split <;> simp
@[simp] theorem thermalWork_coolTimer (m : MeasFrame) : (thermalWork m s).lc.coolTimer = s.lc.coolTimer := by
  unfold thermalWork; split <;> simp
@[simp] theorem thermalWork_rxQueue (m : MeasFrame) : (thermalWork m s).lc.rxQueue = s.lc.rxQueue := by
  unfold thermalWork; split <;> simp
@[simp] theorem thermalWork_lastBreak (m : MeasFrame) : (thermalWork m s).lc.lastBreak = s.lc.lastBreak := by
  unfold thermalWork; split <;> simp
@[simp] theorem thermalWork_window (m : MeasFrame) : (thermalWork m s).lc.window = s.lc.window := by
  unfold thermalWork; split <;> simp
@[simp] theorem thermalWork_unheard (m : MeasFrame) : (thermalWork m s).lc.unheard = s.lc.unheard := by
  unfold thermalWork; split <;> simp
@[simp] theorem thermalWork_idleNeed (m : MeasFrame) : (thermalWork m s).lc.idleNeed = s.lc.idleNeed := by
  unfold thermalWork; split <;> simp
@[simp] theorem thermalWork_idleCount (m : MeasFrame) : (thermalWork m s).lc.idleCount = s.lc.idleCount := by
  unfold thermalWork; split <;> simp
@[simp] theorem thermalWork_phase (m : MeasFrame) : (thermalWork m s).lc.phase = s.lc.phase := by
  unfold thermalWork; split <;> simp
@[simp] theorem thermalWork_breakSeen (m : MeasFrame) : (thermalWork m s).lc.breakSeen = s.lc.breakSeen := by
  unfold thermalWork; split <;> simp
@[simp] theorem thermalWork_breakRun (m : MeasFrame) : (thermalWork m s).lc.breakRun = s.lc.breakRun := by
  unfold thermalWork; split <;> simp
@[simp] theorem thermalWork_beaconTimer (m : MeasFrame) : (thermalWork m s).lc.beaconTimer = s.lc.beaconTimer := by
  unfold thermalWork; split <;> simp
@[simp] theorem thermalWork_beaconPeriod (m : MeasFrame) : (thermalWork m s).lc.beaconPeriod = s.lc.beaconPeriod := by
  unfold thermalWork; split <;> simp
@[simp] theorem thermalWork_ackDriven (m : MeasFrame) : (thermalWork m s).lc.ackDriven = s.lc.ackDriven := by
  unfold thermalWork; split <;> simp
@[simp] theorem thermalWork_holdDriven (m : MeasFrame) : (thermalWork m s).lc.holdDriven = s.lc.holdDriven := by
  unfold thermalWork; split <;> simp

@[simp] theorem loadWork_now (m : MeasFrame) : (loadWork m s).now = s.now := by
  unfold loadWork; split <;> (try split_ifs) <;> simp
@[simp] theorem loadWork_mi (m : MeasFrame) : (loadWork m s).mi = s.mi := by
  unfold loadWork; split <;> (try split_ifs) <;> simp
@[simp] theorem loadWork_pm (m : MeasFrame) : (loadWork m s).pm = s.pm := by
  unfold loadWork; split <;> (try split_ifs) <;> simp
@[simp] theorem loadWork_lc (m : MeasFrame) : (loadWork m s).lc = s.lc := by
  unfold loadWork; split <;> (try split_ifs) <;> simp
@[simp] theorem loadWork_nt (m : MeasFrame) : (loadWork m s).nt = s.nt := by
  unfold loadWork; split <;> (try split_ifs) <;> simp
@[simp] theorem loadWork_su (m : MeasFrame) : (loadWork m s).su = s.su := by
  unfold loadWork; split <;> (try split_ifs) <;> simp
@[simp] theorem loadWork_nc (m : MeasFrame) : (loadWork m s).nc = s.nc := by
  unfold loadWork; split <;> (try split_ifs) <;> simp
@[simp] theorem loadWork_cu (m : MeasFrame) : (loadWork m s).cu = s.cu := by
  unfold loadWork; split <;> (try split_ifs) <;> simp
@[simp] theorem loadWork_pending (m : MeasFrame) : (loadWork m s).pending = s.pending := by
  unfold loadWork; split <;> (try split_ifs) <;> simp

@[simp] theorem goodFrame_now (m : MeasFrame) : (goodFrame m s).now = s.now := by
  unfold goodFrame; simp
@[simp] theorem goodFrame_nt (m : MeasFrame) : (goodFrame m s).nt = s.nt := by
  unfold goodFrame; simp
@[simp] theorem goodFrame_cu (m : MeasFrame) : (goodFrame m s).cu = s.cu := by
  unfold goodFrame; simp
@[simp] theorem goodFrame_pending (m : MeasFrame) : (goodFrame m s).pending = s.pending := by
  unfold goodFrame; simp
@[simp] theorem goodFrame_inUse (m : MeasFrame) : (goodFrame m s).lc.inUse = s.lc.inUse := by
  unfold goodFrame; simp
@[simp] theorem goodFrame_rate (m : MeasFrame) : (goodFrame m s).lc.rate = s.lc.rate := by
  unfold goodFrame; simp
@[simp] theorem goodFrame_mode (m : MeasFrame) : (goodFrame m s).lc.mode = s.lc.mode := by
  unfold goodFrame; simp
@[simp] theorem goodFrame_txErrors (m : MeasFrame) : (goodFrame m s).lc.txErrors = s.lc.txErrors := by
  unfold goodFrame; simp
@[simp] theorem goodFrame_coolLength (m : MeasFrame) : (goodFrame m s).lc.coolLength = s.lc.coolLength := by
  unfold goodFrame; simp
@[simp] theorem goodFrame_coolTimer (m : MeasFrame) : (goodFrame m s).lc.coolTimer = s.lc.coolTimer := by
  unfold goodFrame; simp
@[simp] theorem goodFrame_rxQueue (m : MeasFrame) : (goodFrame m s).lc.rxQueue = s.lc.rxQueue := by
  unfold goodFrame; simp
@[simp] theorem goodFrame_lastBreak (m : MeasFrame) : (goodFrame m s).lc.lastBreak = s.lc.lastBreak := by
  unfold goodFrame; simp
@[simp] theorem goodFrame_window (m : MeasFrame) : (goodFrame m s).lc.window = s.lc.window := by
  unfold goodFrame; simp
@[simp] theorem goodFrame_unheard (m : MeasFrame) : (goodFrame m s).lc.unheard = s.lc.unheard := by
  unfold goodFrame; simp
@[simp] theorem goodFrame_idleNeed (m : MeasFrame) : (goodFrame m s).lc.idleNeed = s.lc.idleNeed := by
  unfold goodFrame; simp
@[simp] theorem goodFrame_idleCount (m : MeasFrame) : (goodFrame m s).lc.idleCount = s.lc.idleCount := by
  unfold goodFrame; simp
@[simp] theorem goodFrame_phase (m : MeasFrame) : (goodFrame m s).lc.phase = s.lc.phase := by
  unfold goodFrame; simp
@[simp] theorem goodFrame_breakSeen (m : MeasFrame) : (goodFrame m s).lc.breakSeen = s.lc.breakSeen := by
  unfold goodFrame; simp
@[simp] theorem goodFrame_breakRun (m : MeasFrame) : (goodFrame m s).lc.breakRun = s.lc.breakRun := by
  unfold goodFrame; simp
@[simp] theorem goodFrame_beaconTimer (m : MeasFrame) : (goodFrame m s).lc.beaconTimer = s.lc.beaconTimer := by
  unfold goodFrame; simp
@[simp] theorem goodFrame_beaconPeriod (m : MeasFrame) : (goodFrame m s).lc.beaconPeriod = s.lc.beaconPeriod := by
  unfold goodFrame; simp
@[simp] theorem goodFrame_ackDriven (m : MeasFrame) : (goodFrame m s).lc.ackDriven = s.lc.ackDriven := by
  unfold goodFrame; simp
@[simp] theorem goodFrame_holdDriven (m : MeasFrame) : (goodFrame m s).lc.holdDriven = s.lc.holdDriven := by
  unfold goodFrame; simp

@[simp] theorem restartReplyGone_now : (restartReplyGone s).now = s.now := by
  unfold restartReplyGone; split_ifs <;> simp
@[simp] theorem restartReplyGone_mi : (restartReplyGone s).mi = s.mi := by
  unfold restartReplyGone; split_ifs <;> simp
@[simp] theorem restartReplyGone_ca : (restartReplyGone s).ca = s.ca := by
  unfold restartReplyGone; split_ifs <;> simp
@[simp] theorem restartReplyGone_pm : (restartReplyGone s).pm = s.pm := by
  unfold restartReplyGone; split_ifs <;> simp
@[simp] theorem restartReplyGone_lc : (restartReplyGone s).lc = s.lc := by
  unfold restartReplyGone; split_ifs <;> simp
@[simp] theorem restartReplyGone_nt : (restartReplyGone s).nt = s.nt := by
  unfold restartReplyGone; split_ifs <;> simp
@[simp] theorem restartReplyGone_su : (restartReplyGone s).su = s.su := by
  unfold restartReplyGone; split_ifs <;> simp
@[simp] theorem restartReplyGone_fr : (restartReplyGone s).fr = s.fr := by
  unfold restartReplyGone; split_ifs <;> simp
@[simp] theorem restartReplyGone_cu : (restartReplyGone s).cu = s.cu := by
  unfold restartReplyGone; split_ifs <;> simp
@[simp] theorem restartReplyGone_pending : (restartReplyGone s).pending = s.pending := by
  unfold restartReplyGone; split_ifs <;> simp

@[simp] theorem streamFrameEnded_now (f h : Bool) : (streamFrameEnded f h s).now = s.now := by
  unfold streamFrameEnded; split <;> simp
@[simp] theorem streamFrameEnded_mi (f h : Bool) : (streamFrameEnded f h s).mi = s.mi := by
  unfold streamFrameEnded; split <;> simp
@[simp] theorem streamFrameEnded_ca (f h : Bool) : (streamFrameEnded f h s).ca = s.ca := by
  unfold streamFrameEnded; split <;> simp
@[simp] theorem streamFrameEnded_pm (f h : Bool) : (streamFrameEnded f h s).pm = s.pm := by
  unfold streamFrameEnded; split <;> simp
@[simp] theorem streamFrameEnded_lc (f h : Bool) : (streamFrameEnded f h s).lc = s.lc := by
  unfold streamFrameEnded; split <;> simp
@[simp] theorem streamFrameEnded_nt (f h : Bool) : (streamFrameEnded f h s).nt = s.nt := by
  unfold streamFrameEnded; split <;> simp
@[simp] theorem streamFrameEnded_su (f h : Bool) : (streamFrameEnded f h s).su = s.su := by
  unfold streamFrameEnded; split <;> simp
@[simp] theorem streamFrameEnded_fr (f h : Bool) : (streamFrameEnded f h s).fr = s.fr := by
  unfold streamFrameEnded; split <;> simp
@[simp] theorem streamFrameEnded_nc (f h : Bool) : (streamFrameEnded f h s).nc = s.nc := by
  unfold streamFrameEnded; split <;> simp
@[simp] theorem streamFrameEnded_pending (f h : Bool) : (streamFrameEnded f h s).pending = s.pending := by
  unfold streamFrameEnded; split <;> simp

@[simp] theorem reportLeft_now (h : Bool) (e : TxEntry) : (reportLeft h s e).now = s.now := by
  unfold reportLeft; split <;> (try split_ifs) <;> simp
@[simp] theorem reportLeft_mi (h : Bool) (e : TxEntry) : (reportLeft h s e).mi = s.mi := by
  unfold reportLeft; split <;> (try split_ifs) <;> simp
@[simp] theorem reportLeft_ca (h : Bool) (e : TxEntry) : (reportLeft h s e).ca = s.ca := by
  unfold reportLeft; split <;> (try split_ifs) <;> simp
@[simp] theorem reportLeft_pm (h : Bool) (e : TxEntry) : (reportLeft h s e).pm = s.pm := by
  unfold reportLeft; split <;> (try split_ifs) <;> simp
@[simp] theorem reportLeft_lc (h : Bool) (e : TxEntry) : (reportLeft h s e).lc = s.lc := by
  unfold reportLeft; split <;> (try split_ifs) <;> simp
@[simp] theorem reportLeft_nt (h : Bool) (e : TxEntry) : (reportLeft h s e).nt = s.nt := by
  unfold reportLeft; split <;> (try split_ifs) <;> simp
@[simp] theorem reportLeft_su (h : Bool) (e : TxEntry) : (reportLeft h s e).su = s.su := by
  unfold reportLeft; split <;> (try split_ifs) <;> simp
@[simp] theorem reportLeft_fr (h : Bool) (e : TxEntry) : (reportLeft h s e).fr = s.fr := by
  unfold reportLeft; split <;> (try split_ifs) <;> simp
@[simp] theorem reportLeft_pending (h : Bool) (e : TxEntry) : (reportLeft h s e).pending = s.pending := by
  unfold reportLeft; split <;> (try split_ifs) <;> simp

@[simp] theorem removeAttempted_now (k : EntryKind) (h : Bool) : (removeAttempted k h s).now = s.now := by
  unfold removeAttempted; split <;> simp
@[simp] theorem removeAttempted_mi (k : EntryKind) (h : Bool) : (removeAttempted k h s).mi = s.mi := by
  unfold removeAttempted; split <;> simp
@[simp] theorem removeAttempted_ca (k : EntryKind) (h : Bool) : (removeAttempted k h s).ca = s.ca := by
  unfold removeAttempted; split <;> simp
@[simp] theorem removeAttempted_pm (k : EntryKind) (h : Bool) : (removeAttempted k h s).pm = s.pm := by
  unfold removeAttempted; split <;> simp
@[simp] theorem removeAttempted_nt (k : EntryKind) (h : Bool) : (removeAttempted k h s).nt = s.nt := by
  unfold removeAttempted; split <;> simp
@[simp] theorem removeAttempted_su (k : EntryKind) (h : Bool) : (removeAttempted k h s).su = s.su := by
  unfold removeAttempted; split <;> simp
@[simp] theorem removeAttempted_fr (k : EntryKind) (h : Bool) : (removeAttempted k h s).fr = s.fr := by
  unfold removeAttempted; split <;> simp
@[simp] theorem removeAttempted_pending (k : EntryKind) (h : Bool) : (removeAttempted k h s).pending = s.pending := by
  unfold removeAttempted; split <;> simp
@[simp] theorem removeAttempted_inUse (k : EntryKind) (h : Bool) : (removeAttempted k h s).lc.inUse = s.lc.inUse := by
  unfold removeAttempted; split <;> simp
@[simp] theorem removeAttempted_rate (k : EntryKind) (h : Bool) : (removeAttempted k h s).lc.rate = s.lc.rate := by
  unfold removeAttempted; split <;> simp
@[simp] theorem removeAttempted_mode (k : EntryKind) (h : Bool) : (removeAttempted k h s).lc.mode = s.lc.mode := by
  unfold removeAttempted; split <;> simp
@[simp] theorem removeAttempted_txErrors (k : EntryKind) (h : Bool) :
    (removeAttempted k h s).lc.txErrors = s.lc.txErrors := by
  unfold removeAttempted; split <;> simp
@[simp] theorem removeAttempted_coolLength (k : EntryKind) (h : Bool) :
    (removeAttempted k h s).lc.coolLength = s.lc.coolLength := by
  unfold removeAttempted; split <;> simp
@[simp] theorem removeAttempted_coolTimer (k : EntryKind) (h : Bool) :
    (removeAttempted k h s).lc.coolTimer = s.lc.coolTimer := by
  unfold removeAttempted; split <;> simp
@[simp] theorem removeAttempted_rxQueue (k : EntryKind) (h : Bool) :
    (removeAttempted k h s).lc.rxQueue = s.lc.rxQueue := by
  unfold removeAttempted; split <;> simp
@[simp] theorem removeAttempted_pendingBreak (k : EntryKind) (h : Bool) :
    (removeAttempted k h s).lc.pendingBreak = s.lc.pendingBreak := by
  unfold removeAttempted; split <;> simp
@[simp] theorem removeAttempted_lastBreak (k : EntryKind) (h : Bool) :
    (removeAttempted k h s).lc.lastBreak = s.lc.lastBreak := by
  unfold removeAttempted; split <;> simp
@[simp] theorem removeAttempted_window (k : EntryKind) (h : Bool) :
    (removeAttempted k h s).lc.window = s.lc.window := by
  unfold removeAttempted; split <;> simp
@[simp] theorem removeAttempted_unheard (k : EntryKind) (h : Bool) :
    (removeAttempted k h s).lc.unheard = s.lc.unheard := by
  unfold removeAttempted; split <;> simp
@[simp] theorem removeAttempted_idleNeed (k : EntryKind) (h : Bool) :
    (removeAttempted k h s).lc.idleNeed = s.lc.idleNeed := by
  unfold removeAttempted; split <;> simp
@[simp] theorem removeAttempted_idleCount (k : EntryKind) (h : Bool) :
    (removeAttempted k h s).lc.idleCount = s.lc.idleCount := by
  unfold removeAttempted; split <;> simp
@[simp] theorem removeAttempted_phase (k : EntryKind) (h : Bool) : (removeAttempted k h s).lc.phase = s.lc.phase := by
  unfold removeAttempted; split <;> simp
@[simp] theorem removeAttempted_breakSeen (k : EntryKind) (h : Bool) :
    (removeAttempted k h s).lc.breakSeen = s.lc.breakSeen := by
  unfold removeAttempted; split <;> simp
@[simp] theorem removeAttempted_breakRun (k : EntryKind) (h : Bool) :
    (removeAttempted k h s).lc.breakRun = s.lc.breakRun := by
  unfold removeAttempted; split <;> simp
@[simp] theorem removeAttempted_followUp (k : EntryKind) (h : Bool) :
    (removeAttempted k h s).lc.followUp = s.lc.followUp := by
  unfold removeAttempted; split <;> simp
@[simp] theorem removeAttempted_beaconTimer (k : EntryKind) (h : Bool) :
    (removeAttempted k h s).lc.beaconTimer = s.lc.beaconTimer := by
  unfold removeAttempted; split <;> simp
@[simp] theorem removeAttempted_beaconPeriod (k : EntryKind) (h : Bool) :
    (removeAttempted k h s).lc.beaconPeriod = s.lc.beaconPeriod := by
  unfold removeAttempted; split <;> simp
@[simp] theorem removeAttempted_ackDriven (k : EntryKind) (h : Bool) :
    (removeAttempted k h s).lc.ackDriven = s.lc.ackDriven := by
  unfold removeAttempted; split <;> simp
@[simp] theorem removeAttempted_holdDriven (k : EntryKind) (h : Bool) :
    (removeAttempted k h s).lc.holdDriven = s.lc.holdDriven := by
  unfold removeAttempted; split <;> simp

@[simp] theorem emptyForListenOnly_now : (emptyForListenOnly s).now = s.now := by
  unfold emptyForListenOnly; dsimp only; split_ifs <;> simp
@[simp] theorem emptyForListenOnly_mi : (emptyForListenOnly s).mi = s.mi := by
  unfold emptyForListenOnly; dsimp only; split_ifs <;> simp
@[simp] theorem emptyForListenOnly_ca : (emptyForListenOnly s).ca = s.ca := by
  unfold emptyForListenOnly; dsimp only; split_ifs <;> simp
@[simp] theorem emptyForListenOnly_pm : (emptyForListenOnly s).pm = s.pm := by
  unfold emptyForListenOnly; dsimp only; split_ifs <;> simp
@[simp] theorem emptyForListenOnly_nt : (emptyForListenOnly s).nt = s.nt := by
  unfold emptyForListenOnly; dsimp only; split_ifs <;> simp
@[simp] theorem emptyForListenOnly_su : (emptyForListenOnly s).su = s.su := by
  unfold emptyForListenOnly; dsimp only; split_ifs <;> simp
@[simp] theorem emptyForListenOnly_fr : (emptyForListenOnly s).fr = s.fr := by
  unfold emptyForListenOnly; dsimp only; split_ifs <;> simp
@[simp] theorem emptyForListenOnly_pending : (emptyForListenOnly s).pending = s.pending := by
  unfold emptyForListenOnly; dsimp only; split_ifs <;> simp
@[simp] theorem emptyForListenOnly_inUse : (emptyForListenOnly s).lc.inUse = s.lc.inUse := by
  unfold emptyForListenOnly; dsimp only; split_ifs <;> simp
@[simp] theorem emptyForListenOnly_rate : (emptyForListenOnly s).lc.rate = s.lc.rate := by
  unfold emptyForListenOnly; dsimp only; split_ifs <;> simp
@[simp] theorem emptyForListenOnly_mode : (emptyForListenOnly s).lc.mode = s.lc.mode := by
  unfold emptyForListenOnly; dsimp only; split_ifs <;> simp
@[simp] theorem emptyForListenOnly_txErrors : (emptyForListenOnly s).lc.txErrors = s.lc.txErrors := by
  unfold emptyForListenOnly; dsimp only; split_ifs <;> simp
@[simp] theorem emptyForListenOnly_coolLength : (emptyForListenOnly s).lc.coolLength = s.lc.coolLength := by
  unfold emptyForListenOnly; dsimp only; split_ifs <;> simp
@[simp] theorem emptyForListenOnly_coolTimer : (emptyForListenOnly s).lc.coolTimer = s.lc.coolTimer := by
  unfold emptyForListenOnly; dsimp only; split_ifs <;> simp
@[simp] theorem emptyForListenOnly_rxQueue : (emptyForListenOnly s).lc.rxQueue = s.lc.rxQueue := by
  unfold emptyForListenOnly; dsimp only; split_ifs <;> simp
@[simp] theorem emptyForListenOnly_lastBreak : (emptyForListenOnly s).lc.lastBreak = s.lc.lastBreak := by
  unfold emptyForListenOnly; dsimp only; split_ifs <;> simp
@[simp] theorem emptyForListenOnly_window : (emptyForListenOnly s).lc.window = s.lc.window := by
  unfold emptyForListenOnly; dsimp only; split_ifs <;> simp
@[simp] theorem emptyForListenOnly_unheard : (emptyForListenOnly s).lc.unheard = s.lc.unheard := by
  unfold emptyForListenOnly; dsimp only; split_ifs <;> simp
@[simp] theorem emptyForListenOnly_idleNeed : (emptyForListenOnly s).lc.idleNeed = s.lc.idleNeed := by
  unfold emptyForListenOnly; dsimp only; split_ifs <;> simp
@[simp] theorem emptyForListenOnly_idleCount : (emptyForListenOnly s).lc.idleCount = s.lc.idleCount := by
  unfold emptyForListenOnly; dsimp only; split_ifs <;> simp
@[simp] theorem emptyForListenOnly_breakSeen : (emptyForListenOnly s).lc.breakSeen = s.lc.breakSeen := by
  unfold emptyForListenOnly; dsimp only; split_ifs <;> simp
@[simp] theorem emptyForListenOnly_breakRun : (emptyForListenOnly s).lc.breakRun = s.lc.breakRun := by
  unfold emptyForListenOnly; dsimp only; split_ifs <;> simp
@[simp] theorem emptyForListenOnly_followUp : (emptyForListenOnly s).lc.followUp = s.lc.followUp := by
  unfold emptyForListenOnly; dsimp only; split_ifs <;> simp
@[simp] theorem emptyForListenOnly_beaconTimer : (emptyForListenOnly s).lc.beaconTimer = s.lc.beaconTimer := by
  unfold emptyForListenOnly; dsimp only; split_ifs <;> simp
@[simp] theorem emptyForListenOnly_beaconPeriod : (emptyForListenOnly s).lc.beaconPeriod = s.lc.beaconPeriod := by
  unfold emptyForListenOnly; dsimp only; split_ifs <;> simp

@[simp] theorem enterListenOnly_now : (enterListenOnly s).now = s.now := by
  unfold enterListenOnly; simp [startCoolDown]
@[simp] theorem enterListenOnly_mi : (enterListenOnly s).mi = s.mi := by
  unfold enterListenOnly; simp [startCoolDown]
@[simp] theorem enterListenOnly_nt : (enterListenOnly s).nt = s.nt := by
  unfold enterListenOnly; simp [startCoolDown]
@[simp] theorem enterListenOnly_pending : (enterListenOnly s).pending = s.pending := by
  unfold enterListenOnly; simp [startCoolDown]
@[simp] theorem enterListenOnly_inUse : (enterListenOnly s).lc.inUse = s.lc.inUse := by
  unfold enterListenOnly; simp [startCoolDown]
@[simp] theorem enterListenOnly_rate : (enterListenOnly s).lc.rate = s.lc.rate := by
  unfold enterListenOnly; simp [startCoolDown]
@[simp] theorem enterListenOnly_txErrors : (enterListenOnly s).lc.txErrors = s.lc.txErrors := by
  unfold enterListenOnly; simp [startCoolDown]
@[simp] theorem enterListenOnly_rxQueue : (enterListenOnly s).lc.rxQueue = s.lc.rxQueue := by
  unfold enterListenOnly; simp [startCoolDown]
@[simp] theorem enterListenOnly_lastBreak : (enterListenOnly s).lc.lastBreak = s.lc.lastBreak := by
  unfold enterListenOnly; simp [startCoolDown]
@[simp] theorem enterListenOnly_window : (enterListenOnly s).lc.window = s.lc.window := by
  unfold enterListenOnly; simp [startCoolDown]
@[simp] theorem enterListenOnly_unheard : (enterListenOnly s).lc.unheard = s.lc.unheard := by
  unfold enterListenOnly; simp [startCoolDown]
@[simp] theorem enterListenOnly_idleNeed : (enterListenOnly s).lc.idleNeed = s.lc.idleNeed := by
  unfold enterListenOnly; simp [startCoolDown]
@[simp] theorem enterListenOnly_idleCount : (enterListenOnly s).lc.idleCount = s.lc.idleCount := by
  unfold enterListenOnly; simp [startCoolDown]
@[simp] theorem enterListenOnly_breakSeen : (enterListenOnly s).lc.breakSeen = s.lc.breakSeen := by
  unfold enterListenOnly; simp [startCoolDown]
@[simp] theorem enterListenOnly_breakRun : (enterListenOnly s).lc.breakRun = s.lc.breakRun := by
  unfold enterListenOnly; simp [startCoolDown]
@[simp] theorem enterListenOnly_beaconTimer : (enterListenOnly s).lc.beaconTimer = s.lc.beaconTimer := by
  unfold enterListenOnly; simp [startCoolDown]
@[simp] theorem enterListenOnly_beaconPeriod : (enterListenOnly s).lc.beaconPeriod = s.lc.beaconPeriod := by
  unfold enterListenOnly; simp [startCoolDown]

@[simp] theorem probeFailed_now : (probeFailed s).now = s.now := by
  unfold probeFailed; simp [startCoolDown]
@[simp] theorem probeFailed_mi : (probeFailed s).mi = s.mi := by
  unfold probeFailed; simp [startCoolDown]
@[simp] theorem probeFailed_nt : (probeFailed s).nt = s.nt := by
  unfold probeFailed; simp [startCoolDown]
@[simp] theorem probeFailed_pending : (probeFailed s).pending = s.pending := by
  unfold probeFailed; simp [startCoolDown]
@[simp] theorem probeFailed_inUse : (probeFailed s).lc.inUse = s.lc.inUse := by
  unfold probeFailed; simp [startCoolDown]
@[simp] theorem probeFailed_rate : (probeFailed s).lc.rate = s.lc.rate := by
  unfold probeFailed; simp [startCoolDown]
@[simp] theorem probeFailed_txErrors : (probeFailed s).lc.txErrors = s.lc.txErrors := by
  unfold probeFailed; simp [startCoolDown]
@[simp] theorem probeFailed_rxQueue : (probeFailed s).lc.rxQueue = s.lc.rxQueue := by
  unfold probeFailed; simp [startCoolDown]
@[simp] theorem probeFailed_lastBreak : (probeFailed s).lc.lastBreak = s.lc.lastBreak := by
  unfold probeFailed; simp [startCoolDown]
@[simp] theorem probeFailed_window : (probeFailed s).lc.window = s.lc.window := by
  unfold probeFailed; simp [startCoolDown]
@[simp] theorem probeFailed_unheard : (probeFailed s).lc.unheard = s.lc.unheard := by
  unfold probeFailed; simp [startCoolDown]
@[simp] theorem probeFailed_idleNeed : (probeFailed s).lc.idleNeed = s.lc.idleNeed := by
  unfold probeFailed; simp [startCoolDown]
@[simp] theorem probeFailed_idleCount : (probeFailed s).lc.idleCount = s.lc.idleCount := by
  unfold probeFailed; simp [startCoolDown]
@[simp] theorem probeFailed_breakSeen : (probeFailed s).lc.breakSeen = s.lc.breakSeen := by
  unfold probeFailed; simp [startCoolDown]
@[simp] theorem probeFailed_breakRun : (probeFailed s).lc.breakRun = s.lc.breakRun := by
  unfold probeFailed; simp [startCoolDown]
@[simp] theorem probeFailed_beaconTimer : (probeFailed s).lc.beaconTimer = s.lc.beaconTimer := by
  unfold probeFailed; simp [startCoolDown]
@[simp] theorem probeFailed_beaconPeriod : (probeFailed s).lc.beaconPeriod = s.lc.beaconPeriod := by
  unfold probeFailed; simp [startCoolDown]

@[simp] theorem duplicateAddress_now : (duplicateAddress s).now = s.now := by
  unfold duplicateAddress; split <;> simp [startCoolDown]
@[simp] theorem duplicateAddress_mi : (duplicateAddress s).mi = s.mi := by
  unfold duplicateAddress; split <;> simp [startCoolDown]
@[simp] theorem duplicateAddress_nt : (duplicateAddress s).nt = s.nt := by
  unfold duplicateAddress; split <;> simp [startCoolDown]
@[simp] theorem duplicateAddress_pending : (duplicateAddress s).pending = s.pending := by
  unfold duplicateAddress; split <;> simp [startCoolDown]
@[simp] theorem duplicateAddress_inUse : (duplicateAddress s).lc.inUse = s.lc.inUse := by
  unfold duplicateAddress; split <;> simp [startCoolDown]
@[simp] theorem duplicateAddress_rate : (duplicateAddress s).lc.rate = s.lc.rate := by
  unfold duplicateAddress; split <;> simp [startCoolDown]
@[simp] theorem duplicateAddress_txErrors : (duplicateAddress s).lc.txErrors = s.lc.txErrors := by
  unfold duplicateAddress; split <;> simp [startCoolDown]
@[simp] theorem duplicateAddress_rxQueue : (duplicateAddress s).lc.rxQueue = s.lc.rxQueue := by
  unfold duplicateAddress; split <;> simp [startCoolDown]
@[simp] theorem duplicateAddress_lastBreak : (duplicateAddress s).lc.lastBreak = s.lc.lastBreak := by
  unfold duplicateAddress; split <;> simp [startCoolDown]
@[simp] theorem duplicateAddress_window : (duplicateAddress s).lc.window = s.lc.window := by
  unfold duplicateAddress; split <;> simp [startCoolDown]
@[simp] theorem duplicateAddress_unheard : (duplicateAddress s).lc.unheard = s.lc.unheard := by
  unfold duplicateAddress; split <;> simp [startCoolDown]
@[simp] theorem duplicateAddress_idleNeed : (duplicateAddress s).lc.idleNeed = s.lc.idleNeed := by
  unfold duplicateAddress; split <;> simp [startCoolDown]
@[simp] theorem duplicateAddress_idleCount : (duplicateAddress s).lc.idleCount = s.lc.idleCount := by
  unfold duplicateAddress; split <;> simp [startCoolDown]
@[simp] theorem duplicateAddress_breakSeen : (duplicateAddress s).lc.breakSeen = s.lc.breakSeen := by
  unfold duplicateAddress; split <;> simp [startCoolDown]
@[simp] theorem duplicateAddress_breakRun : (duplicateAddress s).lc.breakRun = s.lc.breakRun := by
  unfold duplicateAddress; split <;> simp [startCoolDown]
@[simp] theorem duplicateAddress_beaconTimer : (duplicateAddress s).lc.beaconTimer = s.lc.beaconTimer := by
  unfold duplicateAddress; split <;> simp [startCoolDown]
@[simp] theorem duplicateAddress_beaconPeriod : (duplicateAddress s).lc.beaconPeriod = s.lc.beaconPeriod := by
  unfold duplicateAddress; split <;> simp [startCoolDown]

@[simp] theorem recordBeacon_now (h : Bool) : (recordBeacon h s).now = s.now := by
  unfold recordBeacon; dsimp only; split_ifs <;> simp
@[simp] theorem recordBeacon_mi (h : Bool) : (recordBeacon h s).mi = s.mi := by
  unfold recordBeacon; dsimp only; split_ifs <;> simp
@[simp] theorem recordBeacon_nt (h : Bool) : (recordBeacon h s).nt = s.nt := by
  unfold recordBeacon; dsimp only; split_ifs <;> simp
@[simp] theorem recordBeacon_cu (h : Bool) : (recordBeacon h s).cu = s.cu := by
  unfold recordBeacon; dsimp only; split_ifs <;> simp
@[simp] theorem recordBeacon_pending (h : Bool) : (recordBeacon h s).pending = s.pending := by
  unfold recordBeacon; dsimp only; split_ifs <;> simp
@[simp] theorem recordBeacon_inUse (h : Bool) : (recordBeacon h s).lc.inUse = s.lc.inUse := by
  unfold recordBeacon; dsimp only; split_ifs <;> simp
@[simp] theorem recordBeacon_rate (h : Bool) : (recordBeacon h s).lc.rate = s.lc.rate := by
  unfold recordBeacon; dsimp only; split_ifs <;> simp
@[simp] theorem recordBeacon_mode (h : Bool) : (recordBeacon h s).lc.mode = s.lc.mode := by
  unfold recordBeacon; dsimp only; split_ifs <;> simp
@[simp] theorem recordBeacon_txErrors (h : Bool) : (recordBeacon h s).lc.txErrors = s.lc.txErrors := by
  unfold recordBeacon; dsimp only; split_ifs <;> simp
@[simp] theorem recordBeacon_coolLength (h : Bool) : (recordBeacon h s).lc.coolLength = s.lc.coolLength := by
  unfold recordBeacon; dsimp only; split_ifs <;> simp
@[simp] theorem recordBeacon_coolTimer (h : Bool) : (recordBeacon h s).lc.coolTimer = s.lc.coolTimer := by
  unfold recordBeacon; dsimp only; split_ifs <;> simp
@[simp] theorem recordBeacon_rxQueue (h : Bool) : (recordBeacon h s).lc.rxQueue = s.lc.rxQueue := by
  unfold recordBeacon; dsimp only; split_ifs <;> simp
@[simp] theorem recordBeacon_lastBreak (h : Bool) : (recordBeacon h s).lc.lastBreak = s.lc.lastBreak := by
  unfold recordBeacon; dsimp only; split_ifs <;> simp
@[simp] theorem recordBeacon_window (h : Bool) : (recordBeacon h s).lc.window = s.lc.window := by
  unfold recordBeacon; dsimp only; split_ifs <;> simp
@[simp] theorem recordBeacon_idleNeed (h : Bool) : (recordBeacon h s).lc.idleNeed = s.lc.idleNeed := by
  unfold recordBeacon; dsimp only; split_ifs <;> simp
@[simp] theorem recordBeacon_idleCount (h : Bool) : (recordBeacon h s).lc.idleCount = s.lc.idleCount := by
  unfold recordBeacon; dsimp only; split_ifs <;> simp
@[simp] theorem recordBeacon_phase (h : Bool) : (recordBeacon h s).lc.phase = s.lc.phase := by
  unfold recordBeacon; dsimp only; split_ifs <;> simp
@[simp] theorem recordBeacon_breakSeen (h : Bool) : (recordBeacon h s).lc.breakSeen = s.lc.breakSeen := by
  unfold recordBeacon; dsimp only; split_ifs <;> simp
@[simp] theorem recordBeacon_breakRun (h : Bool) : (recordBeacon h s).lc.breakRun = s.lc.breakRun := by
  unfold recordBeacon; dsimp only; split_ifs <;> simp
@[simp] theorem recordBeacon_beaconTimer (h : Bool) : (recordBeacon h s).lc.beaconTimer = s.lc.beaconTimer := by
  unfold recordBeacon; dsimp only; split_ifs <;> simp
@[simp] theorem recordBeacon_beaconPeriod (h : Bool) : (recordBeacon h s).lc.beaconPeriod = s.lc.beaconPeriod := by
  unfold recordBeacon; dsimp only; split_ifs <;> simp
@[simp] theorem recordBeacon_ackDriven (h : Bool) : (recordBeacon h s).lc.ackDriven = s.lc.ackDriven := by
  unfold recordBeacon; dsimp only; split_ifs <;> simp
@[simp] theorem recordBeacon_holdDriven (h : Bool) : (recordBeacon h s).lc.holdDriven = s.lc.holdDriven := by
  unfold recordBeacon; dsimp only; split_ifs <;> simp

@[simp] theorem appendOutcome_now (o : LineOutcome) : (appendOutcome o s).now = s.now := by
  unfold appendOutcome; dsimp only; split_ifs <;> simp
@[simp] theorem appendOutcome_mi (o : LineOutcome) : (appendOutcome o s).mi = s.mi := by
  unfold appendOutcome; dsimp only; split_ifs <;> simp
@[simp] theorem appendOutcome_nt (o : LineOutcome) : (appendOutcome o s).nt = s.nt := by
  unfold appendOutcome; dsimp only; split_ifs <;> simp
@[simp] theorem appendOutcome_cu (o : LineOutcome) : (appendOutcome o s).cu = s.cu := by
  unfold appendOutcome; dsimp only; split_ifs <;> simp
@[simp] theorem appendOutcome_pending (o : LineOutcome) : (appendOutcome o s).pending = s.pending := by
  unfold appendOutcome; dsimp only; split_ifs <;> simp
@[simp] theorem appendOutcome_inUse (o : LineOutcome) : (appendOutcome o s).lc.inUse = s.lc.inUse := by
  unfold appendOutcome; dsimp only; split_ifs <;> simp
@[simp] theorem appendOutcome_rate (o : LineOutcome) : (appendOutcome o s).lc.rate = s.lc.rate := by
  unfold appendOutcome; dsimp only; split_ifs <;> simp
@[simp] theorem appendOutcome_mode (o : LineOutcome) : (appendOutcome o s).lc.mode = s.lc.mode := by
  unfold appendOutcome; dsimp only; split_ifs <;> simp
@[simp] theorem appendOutcome_txErrors (o : LineOutcome) : (appendOutcome o s).lc.txErrors = s.lc.txErrors := by
  unfold appendOutcome; dsimp only; split_ifs <;> simp
@[simp] theorem appendOutcome_coolLength (o : LineOutcome) : (appendOutcome o s).lc.coolLength = s.lc.coolLength := by
  unfold appendOutcome; dsimp only; split_ifs <;> simp
@[simp] theorem appendOutcome_coolTimer (o : LineOutcome) : (appendOutcome o s).lc.coolTimer = s.lc.coolTimer := by
  unfold appendOutcome; dsimp only; split_ifs <;> simp
@[simp] theorem appendOutcome_rxQueue (o : LineOutcome) : (appendOutcome o s).lc.rxQueue = s.lc.rxQueue := by
  unfold appendOutcome; dsimp only; split_ifs <;> simp
@[simp] theorem appendOutcome_lastBreak (o : LineOutcome) : (appendOutcome o s).lc.lastBreak = s.lc.lastBreak := by
  unfold appendOutcome; dsimp only; split_ifs <;> simp
@[simp] theorem appendOutcome_unheard (o : LineOutcome) : (appendOutcome o s).lc.unheard = s.lc.unheard := by
  unfold appendOutcome; dsimp only; split_ifs <;> simp
@[simp] theorem appendOutcome_idleNeed (o : LineOutcome) : (appendOutcome o s).lc.idleNeed = s.lc.idleNeed := by
  unfold appendOutcome; dsimp only; split_ifs <;> simp
@[simp] theorem appendOutcome_idleCount (o : LineOutcome) : (appendOutcome o s).lc.idleCount = s.lc.idleCount := by
  unfold appendOutcome; dsimp only; split_ifs <;> simp
@[simp] theorem appendOutcome_phase (o : LineOutcome) : (appendOutcome o s).lc.phase = s.lc.phase := by
  unfold appendOutcome; dsimp only; split_ifs <;> simp
@[simp] theorem appendOutcome_breakSeen (o : LineOutcome) : (appendOutcome o s).lc.breakSeen = s.lc.breakSeen := by
  unfold appendOutcome; dsimp only; split_ifs <;> simp
@[simp] theorem appendOutcome_breakRun (o : LineOutcome) : (appendOutcome o s).lc.breakRun = s.lc.breakRun := by
  unfold appendOutcome; dsimp only; split_ifs <;> simp
@[simp] theorem appendOutcome_beaconTimer (o : LineOutcome) :
    (appendOutcome o s).lc.beaconTimer = s.lc.beaconTimer := by
  unfold appendOutcome; dsimp only; split_ifs <;> simp
@[simp] theorem appendOutcome_beaconPeriod (o : LineOutcome) :
    (appendOutcome o s).lc.beaconPeriod = s.lc.beaconPeriod := by
  unfold appendOutcome; dsimp only; split_ifs <;> simp
@[simp] theorem appendOutcome_ackDriven (o : LineOutcome) : (appendOutcome o s).lc.ackDriven = s.lc.ackDriven := by
  unfold appendOutcome; dsimp only; split_ifs <;> simp
@[simp] theorem appendOutcome_holdDriven (o : LineOutcome) : (appendOutcome o s).lc.holdDriven = s.lc.holdDriven := by
  unfold appendOutcome; dsimp only; split_ifs <;> simp

@[simp] theorem overrun_now : (overrun s).now = s.now := by
  unfold overrun; simp
@[simp] theorem overrun_mi : (overrun s).mi = s.mi := by
  unfold overrun; simp
@[simp] theorem overrun_nt : (overrun s).nt = s.nt := by
  unfold overrun; simp
@[simp] theorem overrun_cu : (overrun s).cu = s.cu := by
  unfold overrun; simp
@[simp] theorem overrun_pending : (overrun s).pending = s.pending := by
  unfold overrun; simp
@[simp] theorem overrun_inUse : (overrun s).lc.inUse = s.lc.inUse := by
  unfold overrun; simp
@[simp] theorem overrun_rate : (overrun s).lc.rate = s.lc.rate := by
  unfold overrun; simp
@[simp] theorem overrun_mode : (overrun s).lc.mode = s.lc.mode := by
  unfold overrun; simp
@[simp] theorem overrun_txErrors : (overrun s).lc.txErrors = s.lc.txErrors := by
  unfold overrun; simp
@[simp] theorem overrun_coolLength : (overrun s).lc.coolLength = s.lc.coolLength := by
  unfold overrun; simp
@[simp] theorem overrun_coolTimer : (overrun s).lc.coolTimer = s.lc.coolTimer := by
  unfold overrun; simp
@[simp] theorem overrun_rxQueue : (overrun s).lc.rxQueue = s.lc.rxQueue := by
  unfold overrun; simp
@[simp] theorem overrun_lastBreak : (overrun s).lc.lastBreak = s.lc.lastBreak := by
  unfold overrun; simp
@[simp] theorem overrun_window : (overrun s).lc.window = s.lc.window := by
  unfold overrun; simp
@[simp] theorem overrun_unheard : (overrun s).lc.unheard = s.lc.unheard := by
  unfold overrun; simp
@[simp] theorem overrun_idleNeed : (overrun s).lc.idleNeed = s.lc.idleNeed := by
  unfold overrun; simp
@[simp] theorem overrun_idleCount : (overrun s).lc.idleCount = s.lc.idleCount := by
  unfold overrun; simp
@[simp] theorem overrun_phase : (overrun s).lc.phase = s.lc.phase := by
  unfold overrun; simp
@[simp] theorem overrun_breakSeen : (overrun s).lc.breakSeen = s.lc.breakSeen := by
  unfold overrun; simp
@[simp] theorem overrun_breakRun : (overrun s).lc.breakRun = s.lc.breakRun := by
  unfold overrun; simp
@[simp] theorem overrun_beaconTimer : (overrun s).lc.beaconTimer = s.lc.beaconTimer := by
  unfold overrun; simp
@[simp] theorem overrun_beaconPeriod : (overrun s).lc.beaconPeriod = s.lc.beaconPeriod := by
  unfold overrun; simp
@[simp] theorem overrun_ackDriven : (overrun s).lc.ackDriven = s.lc.ackDriven := by
  unfold overrun; simp
@[simp] theorem overrun_holdDriven : (overrun s).lc.holdDriven = s.lc.holdDriven := by
  unfold overrun; simp

@[simp] theorem offer_now (f : Frame) : (offer f s).now = s.now := by
  unfold offer; split_ifs <;> simp
@[simp] theorem offer_mi (f : Frame) : (offer f s).mi = s.mi := by
  unfold offer; split_ifs <;> simp
@[simp] theorem offer_nt (f : Frame) : (offer f s).nt = s.nt := by
  unfold offer; split_ifs <;> simp
@[simp] theorem offer_cu (f : Frame) : (offer f s).cu = s.cu := by
  unfold offer; split_ifs <;> simp
@[simp] theorem offer_pending (f : Frame) : (offer f s).pending = s.pending := by
  unfold offer; split_ifs <;> simp
@[simp] theorem offer_inUse (f : Frame) : (offer f s).lc.inUse = s.lc.inUse := by
  unfold offer; split_ifs <;> simp
@[simp] theorem offer_rate (f : Frame) : (offer f s).lc.rate = s.lc.rate := by
  unfold offer; split_ifs <;> simp
@[simp] theorem offer_mode (f : Frame) : (offer f s).lc.mode = s.lc.mode := by
  unfold offer; split_ifs <;> simp
@[simp] theorem offer_txErrors (f : Frame) : (offer f s).lc.txErrors = s.lc.txErrors := by
  unfold offer; split_ifs <;> simp
@[simp] theorem offer_coolLength (f : Frame) : (offer f s).lc.coolLength = s.lc.coolLength := by
  unfold offer; split_ifs <;> simp
@[simp] theorem offer_coolTimer (f : Frame) : (offer f s).lc.coolTimer = s.lc.coolTimer := by
  unfold offer; split_ifs <;> simp
@[simp] theorem offer_lastBreak (f : Frame) : (offer f s).lc.lastBreak = s.lc.lastBreak := by
  unfold offer; split_ifs <;> simp
@[simp] theorem offer_window (f : Frame) : (offer f s).lc.window = s.lc.window := by
  unfold offer; split_ifs <;> simp
@[simp] theorem offer_unheard (f : Frame) : (offer f s).lc.unheard = s.lc.unheard := by
  unfold offer; split_ifs <;> simp
@[simp] theorem offer_idleNeed (f : Frame) : (offer f s).lc.idleNeed = s.lc.idleNeed := by
  unfold offer; split_ifs <;> simp
@[simp] theorem offer_idleCount (f : Frame) : (offer f s).lc.idleCount = s.lc.idleCount := by
  unfold offer; split_ifs <;> simp
@[simp] theorem offer_phase (f : Frame) : (offer f s).lc.phase = s.lc.phase := by
  unfold offer; split_ifs <;> simp
@[simp] theorem offer_breakSeen (f : Frame) : (offer f s).lc.breakSeen = s.lc.breakSeen := by
  unfold offer; split_ifs <;> simp
@[simp] theorem offer_breakRun (f : Frame) : (offer f s).lc.breakRun = s.lc.breakRun := by
  unfold offer; split_ifs <;> simp
@[simp] theorem offer_beaconTimer (f : Frame) : (offer f s).lc.beaconTimer = s.lc.beaconTimer := by
  unfold offer; split_ifs <;> simp
@[simp] theorem offer_beaconPeriod (f : Frame) : (offer f s).lc.beaconPeriod = s.lc.beaconPeriod := by
  unfold offer; split_ifs <;> simp
@[simp] theorem offer_ackDriven (f : Frame) : (offer f s).lc.ackDriven = s.lc.ackDriven := by
  unfold offer; split_ifs <;> simp
@[simp] theorem offer_holdDriven (f : Frame) : (offer f s).lc.holdDriven = s.lc.holdDriven := by
  unfold offer; split_ifs <;> simp

@[simp] theorem checkTwin_now (f : Frame) : (checkTwin f s).now = s.now := by
  unfold checkTwin; split_ifs <;> simp
@[simp] theorem checkTwin_mi (f : Frame) : (checkTwin f s).mi = s.mi := by
  unfold checkTwin; split_ifs <;> simp
@[simp] theorem checkTwin_nt (f : Frame) : (checkTwin f s).nt = s.nt := by
  unfold checkTwin; split_ifs <;> simp
@[simp] theorem checkTwin_pending (f : Frame) : (checkTwin f s).pending = s.pending := by
  unfold checkTwin; split_ifs <;> simp
@[simp] theorem checkTwin_inUse (f : Frame) : (checkTwin f s).lc.inUse = s.lc.inUse := by
  unfold checkTwin; split_ifs <;> simp
@[simp] theorem checkTwin_rate (f : Frame) : (checkTwin f s).lc.rate = s.lc.rate := by
  unfold checkTwin; split_ifs <;> simp
@[simp] theorem checkTwin_txErrors (f : Frame) : (checkTwin f s).lc.txErrors = s.lc.txErrors := by
  unfold checkTwin; split_ifs <;> simp
@[simp] theorem checkTwin_rxQueue (f : Frame) : (checkTwin f s).lc.rxQueue = s.lc.rxQueue := by
  unfold checkTwin; split_ifs <;> simp
@[simp] theorem checkTwin_lastBreak (f : Frame) : (checkTwin f s).lc.lastBreak = s.lc.lastBreak := by
  unfold checkTwin; split_ifs <;> simp
@[simp] theorem checkTwin_window (f : Frame) : (checkTwin f s).lc.window = s.lc.window := by
  unfold checkTwin; split_ifs <;> simp
@[simp] theorem checkTwin_unheard (f : Frame) : (checkTwin f s).lc.unheard = s.lc.unheard := by
  unfold checkTwin; split_ifs <;> simp
@[simp] theorem checkTwin_idleNeed (f : Frame) : (checkTwin f s).lc.idleNeed = s.lc.idleNeed := by
  unfold checkTwin; split_ifs <;> simp
@[simp] theorem checkTwin_idleCount (f : Frame) : (checkTwin f s).lc.idleCount = s.lc.idleCount := by
  unfold checkTwin; split_ifs <;> simp
@[simp] theorem checkTwin_breakSeen (f : Frame) : (checkTwin f s).lc.breakSeen = s.lc.breakSeen := by
  unfold checkTwin; split_ifs <;> simp
@[simp] theorem checkTwin_breakRun (f : Frame) : (checkTwin f s).lc.breakRun = s.lc.breakRun := by
  unfold checkTwin; split_ifs <;> simp
@[simp] theorem checkTwin_beaconTimer (f : Frame) : (checkTwin f s).lc.beaconTimer = s.lc.beaconTimer := by
  unfold checkTwin; split_ifs <;> simp
@[simp] theorem checkTwin_beaconPeriod (f : Frame) : (checkTwin f s).lc.beaconPeriod = s.lc.beaconPeriod := by
  unfold checkTwin; split_ifs <;> simp

@[simp] theorem clearNbl_now (e : Entry) : (clearNbl e s).now = s.now := by
  unfold clearNbl; split_ifs <;> simp
@[simp] theorem clearNbl_mi (e : Entry) : (clearNbl e s).mi = s.mi := by
  unfold clearNbl; split_ifs <;> simp
@[simp] theorem clearNbl_ca (e : Entry) : (clearNbl e s).ca = s.ca := by
  unfold clearNbl; split_ifs <;> simp
@[simp] theorem clearNbl_pm (e : Entry) : (clearNbl e s).pm = s.pm := by
  unfold clearNbl; split_ifs <;> simp
@[simp] theorem clearNbl_lc (e : Entry) : (clearNbl e s).lc = s.lc := by
  unfold clearNbl; split_ifs <;> simp
@[simp] theorem clearNbl_nt (e : Entry) : (clearNbl e s).nt = s.nt := by
  unfold clearNbl; split_ifs <;> simp
@[simp] theorem clearNbl_su (e : Entry) : (clearNbl e s).su = s.su := by
  unfold clearNbl; split_ifs <;> simp
@[simp] theorem clearNbl_nc (e : Entry) : (clearNbl e s).nc = s.nc := by
  unfold clearNbl; split_ifs <;> simp
@[simp] theorem clearNbl_cu (e : Entry) : (clearNbl e s).cu = s.cu := by
  unfold clearNbl; split_ifs <;> simp
@[simp] theorem clearNbl_pending (e : Entry) : (clearNbl e s).pending = s.pending := by
  unfold clearNbl; split_ifs <;> simp

@[simp] theorem applyBeacon_now (a : Nat) (b : BeaconContent) : (applyBeacon a b s).now = s.now := by
  unfold applyBeacon; split <;> (try split_ifs) <;> (try split) <;> simp
@[simp] theorem applyBeacon_mi (a : Nat) (b : BeaconContent) : (applyBeacon a b s).mi = s.mi := by
  unfold applyBeacon; split <;> (try split_ifs) <;> (try split) <;> simp
@[simp] theorem applyBeacon_ca (a : Nat) (b : BeaconContent) : (applyBeacon a b s).ca = s.ca := by
  unfold applyBeacon; split <;> (try split_ifs) <;> (try split) <;> simp
@[simp] theorem applyBeacon_pm (a : Nat) (b : BeaconContent) : (applyBeacon a b s).pm = s.pm := by
  unfold applyBeacon; split <;> (try split_ifs) <;> (try split) <;> simp
@[simp] theorem applyBeacon_lc (a : Nat) (b : BeaconContent) : (applyBeacon a b s).lc = s.lc := by
  unfold applyBeacon; split <;> (try split_ifs) <;> (try split) <;> simp
@[simp] theorem applyBeacon_su (a : Nat) (b : BeaconContent) : (applyBeacon a b s).su = s.su := by
  unfold applyBeacon; split <;> (try split_ifs) <;> (try split) <;> simp
@[simp] theorem applyBeacon_nc (a : Nat) (b : BeaconContent) : (applyBeacon a b s).nc = s.nc := by
  unfold applyBeacon; split <;> (try split_ifs) <;> (try split) <;> simp
@[simp] theorem applyBeacon_cu (a : Nat) (b : BeaconContent) : (applyBeacon a b s).cu = s.cu := by
  unfold applyBeacon; split <;> (try split_ifs) <;> (try split) <;> simp
@[simp] theorem applyBeacon_pending (a : Nat) (b : BeaconContent) : (applyBeacon a b s).pending = s.pending := by
  unfold applyBeacon; split <;> (try split_ifs) <;> (try split) <;> simp

@[simp] theorem commit_now (r : Round) : (commit r s).now = s.now := by
  unfold commit; simp
@[simp] theorem commit_mi (r : Round) : (commit r s).mi = s.mi := by
  unfold commit; simp
@[simp] theorem commit_lc (r : Round) : (commit r s).lc = s.lc := by
  unfold commit; simp
@[simp] theorem commit_nt (r : Round) : (commit r s).nt = s.nt := by
  unfold commit; simp
@[simp] theorem commit_nc (r : Round) : (commit r s).nc = s.nc := by
  unfold commit; simp
@[simp] theorem commit_cu (r : Round) : (commit r s).cu = s.cu := by
  unfold commit; simp
@[simp] theorem commit_pending (r : Round) : (commit r s).pending = s.pending := by
  unfold commit; simp

@[simp] theorem release_now (k : Slot) : (release k s).now = s.now := by
  unfold release; simp
@[simp] theorem release_mi (k : Slot) : (release k s).mi = s.mi := by
  unfold release; simp
@[simp] theorem release_nt (k : Slot) : (release k s).nt = s.nt := by
  unfold release; simp
@[simp] theorem release_su (k : Slot) : (release k s).su = s.su := by
  unfold release; simp
@[simp] theorem release_nc (k : Slot) : (release k s).nc = s.nc := by
  unfold release; simp
@[simp] theorem release_cu (k : Slot) : (release k s).cu = s.cu := by
  unfold release; simp
@[simp] theorem release_pending (k : Slot) : (release k s).pending = s.pending := by
  unfold release; simp
@[simp] theorem release_inUse (k : Slot) : (release k s).lc.inUse = s.lc.inUse := by
  unfold release; simp
@[simp] theorem release_rate (k : Slot) : (release k s).lc.rate = s.lc.rate := by
  unfold release; simp
@[simp] theorem release_mode (k : Slot) : (release k s).lc.mode = s.lc.mode := by
  unfold release; simp
@[simp] theorem release_txErrors (k : Slot) : (release k s).lc.txErrors = s.lc.txErrors := by
  unfold release; simp
@[simp] theorem release_coolLength (k : Slot) : (release k s).lc.coolLength = s.lc.coolLength := by
  unfold release; simp
@[simp] theorem release_coolTimer (k : Slot) : (release k s).lc.coolTimer = s.lc.coolTimer := by
  unfold release; simp
@[simp] theorem release_rxQueue (k : Slot) : (release k s).lc.rxQueue = s.lc.rxQueue := by
  unfold release; simp
@[simp] theorem release_pendingBreak (k : Slot) : (release k s).lc.pendingBreak = s.lc.pendingBreak := by
  unfold release; simp
@[simp] theorem release_lastBreak (k : Slot) : (release k s).lc.lastBreak = s.lc.lastBreak := by
  unfold release; simp
@[simp] theorem release_window (k : Slot) : (release k s).lc.window = s.lc.window := by
  unfold release; simp
@[simp] theorem release_unheard (k : Slot) : (release k s).lc.unheard = s.lc.unheard := by
  unfold release; simp
@[simp] theorem release_idleNeed (k : Slot) : (release k s).lc.idleNeed = s.lc.idleNeed := by
  unfold release; simp
@[simp] theorem release_idleCount (k : Slot) : (release k s).lc.idleCount = s.lc.idleCount := by
  unfold release; simp
@[simp] theorem release_phase (k : Slot) : (release k s).lc.phase = s.lc.phase := by
  unfold release; simp
@[simp] theorem release_breakSeen (k : Slot) : (release k s).lc.breakSeen = s.lc.breakSeen := by
  unfold release; simp
@[simp] theorem release_breakRun (k : Slot) : (release k s).lc.breakRun = s.lc.breakRun := by
  unfold release; simp
@[simp] theorem release_beaconTimer (k : Slot) : (release k s).lc.beaconTimer = s.lc.beaconTimer := by
  unfold release; simp
@[simp] theorem release_beaconPeriod (k : Slot) : (release k s).lc.beaconPeriod = s.lc.beaconPeriod := by
  unfold release; simp
@[simp] theorem release_ackDriven (k : Slot) : (release k s).lc.ackDriven = s.lc.ackDriven := by
  unfold release; simp
@[simp] theorem release_holdDriven (k : Slot) : (release k s).lc.holdDriven = s.lc.holdDriven := by
  unfold release; simp

end Sys2Proof.Machine
end

