-- ==== Sys2Proof/Laws/Ops.lean ====
section
/-! SUPPORT. What the shared operations do, once for each: the reset gate, alarm causes and break requests, the off
flags, the pass, the Fault Log's raise and clear, the places of the Transmit Queue, the level port. -/

namespace Sys2Proof.Machine

/-! ## The reset gate -/

@[simp] theorem unlessHeld_acts {s : State} (h : s.acts) (t : State) : unlessHeld s t = .next t := by
  unfold State.acts at h
  simp [unlessHeld, h]

@[simp] theorem unlessHeld_held {s : State} (h : ¬ s.acts) (t : State) : unlessHeld s t = .next s := by
  unfold State.acts at h
  simp [unlessHeld, h]

/-- A command under the reset gate is always answered with a next state. -/
theorem unlessHeld_next (s t : State) : unlessHeld s t = .next s ∨ unlessHeld s t = .next t := by
  unfold unlessHeld
  split
  · exact .inl rfl
  · exact .inr rfl

/-! ## Alarm causes and break requests -/

/-- An alarm cause is ignored during a soft restart, recorded while a beacon is under way, or sets the marker. -/
theorem alarm_cases (s : State) :
    (s.nc.restart = .inProgress ∧ alarm s = s) ∨
    (s.nc.restart ≠ .inProgress ∧ s.lc.beaconUnderWay = true ∧
      alarm s = { s with lc := { s.lc with followUp := true } }) ∨
    (s.nc.restart ≠ .inProgress ∧ s.lc.beaconUnderWay = false ∧ alarm s = { s with lc := s.lc.urgentMarker }) := by
  unfold alarm
  split_ifs with h1 h2
  · exact .inl ⟨h1, rfl⟩
  · exact .inr (.inl ⟨h1, h2, rfl⟩)
  · exact .inr (.inr ⟨h1, by simpa using h2, rfl⟩)

/-- A break request makes a break pending, or changes nothing. -/
theorem breakRequest_cases (s : State) :
    (s.lc.mode = .normal ∧ (∀ t ∈ s.lc.lastBreak, t + 10000 ≤ s.now) ∧
      breakRequest s = { s with lc := { s.lc with pendingBreak := true } }) ∨
    (¬ (s.lc.mode = .normal ∧ ∀ t ∈ s.lc.lastBreak, t + 10000 ≤ s.now) ∧ breakRequest s = s) := by
  unfold breakRequest
  by_cases h : s.lc.mode = .normal ∧ ∀ t ∈ s.lc.lastBreak, t + Config.breakSpacing ≤ s.now
  · rw [if_pos h]
    exact .inl ⟨h.1, h.2, rfl⟩
  · rw [if_neg h]
    exact .inr ⟨h, rfl⟩

/-! ## The places of the Transmit Queue -/

theorem TxEntry.priority_le (e : TxEntry) : e.priority ≤ 3 := by
  cases e <;> simp [TxEntry.priority]
  split <;> omega

theorem mem_insertEntry (e x : TxEntry) (q : List TxEntry) : x ∈ insertEntry e q ↔ x = e ∨ x ∈ q := by
  induction q with
  | nil => simp [insertEntry]
  | cons y rest ih =>
    unfold insertEntry
    split <;> simp [ih]
    constructor
    · rintro (h | h | h) <;> simp [h]
    · rintro (h | h | h) <;> simp [h]

/-- An entry of priority 3 joins the end of the queue. -/
theorem insertEntry_last (e : TxEntry) (q : List TxEntry) (h : e.priority = 3) : insertEntry e q = q ++ [e] := by
  induction q with
  | nil => rfl
  | cons y rest ih =>
    have := y.priority_le
    unfold insertEntry
    rw [if_neg (by omega), ih, List.cons_append]

/-- Insertion keeps the queue in order of priority. -/
theorem insertEntry_sorted (e : TxEntry) (q : List TxEntry) (h : q.Pairwise fun a b => a.priority ≤ b.priority) :
    (insertEntry e q).Pairwise fun a b => a.priority ≤ b.priority := by
  induction q with
  | nil => simp [insertEntry]
  | cons y rest ih =>
    obtain ⟨hy, hr⟩ := List.pairwise_cons.mp h
    unfold insertEntry
    split
    · rename_i hlt
      refine List.pairwise_cons.mpr ⟨fun x hx => ?_, h⟩
      rcases List.mem_cons.mp hx with rfl | hx
      · omega
      · have := hy x hx
        omega
    · rename_i hge
      refine List.pairwise_cons.mpr ⟨fun x hx => ?_, ih hr⟩
      rcases (mem_insertEntry e x rest).mp hx with rfl | hx
      · omega
      · exact hy x hx

/-- What a filter that passes over the inserted entry keeps is what it kept before. -/
theorem filter_insertEntry (p : TxEntry → Bool) (e : TxEntry) (q : List TxEntry) (h : p e = false) :
    (insertEntry e q).filter p = q.filter p := by
  induction q with
  | nil => simp [insertEntry, h]
  | cons y rest ih =>
    unfold insertEntry
    split
    · simp [List.filter_cons, h]
    · simp [List.filter_cons, ih]

theorem length_insertEntry (e : TxEntry) (q : List TxEntry) : (insertEntry e q).length = q.length + 1 := by
  induction q with
  | nil => rfl
  | cons y rest ih =>
    unfold insertEntry
    split <;> simp [ih]

/-- A set or raised marker leaves the replies and stream frames as they were. -/
theorem urgentMarker_others (lc : Line) :
    lc.urgentMarker.txQueue.filter (fun e => !e.isMarker) = lc.txQueue.filter fun e => !e.isMarker := by
  unfold Line.urgentMarker
  rw [filter_insertEntry _ _ _ rfl, List.filter_filter]
  simp

theorem urgentMarker_mem (lc : Line) : .marker true ∈ lc.urgentMarker.txQueue :=
  (mem_insertEntry _ _ _).mpr (.inl rfl)

/-! ## Participation and the off flags -/

theorem participates_eq {s t : State} (k : Slot)
    (he : (t.ca.slots.get k).enabled = (s.ca.slots.get k).enabled)
    (ht : (t.ca.slots.get k).trip = (s.ca.slots.get k).trip) (hn : t.nc = s.nc) (hm : t.mi.mute = s.mi.mute) :
    t.participates k = s.participates k := by
  simp [State.participates, State.onAir, State.restarting, he, ht, hn, hm]

theorem offNow_eq {s t : State} (k : Slot)
    (he : (t.ca.slots.get k).enabled = (s.ca.slots.get k).enabled)
    (ht : (t.ca.slots.get k).trip = (s.ca.slots.get k).trip) (hn : t.nc = s.nc) (hm : t.mi.mute = s.mi.mute) :
    t.offNow k = s.offNow k := by
  simp [State.offNow, State.restarting, he, ht, hn, hm]

/-- The off flags are evaluated, and nothing else of the Carriage Table changes. -/
@[simp] theorem evaluateOff_slot (s : State) (k : Slot) :
    (evaluateOff s).ca.slots.get k = { s.ca.slots.get k with off := s.offNow k } := by
  unfold evaluateOff
  dsimp only
  split_ifs <;> simp

@[simp] theorem evaluateOff_budget (s : State) : (evaluateOff s).ca.budget = s.ca.budget := by
  unfold evaluateOff
  dsimp only
  split_ifs <;> simp

@[simp] theorem evaluateOff_levelQueue (s : State) : (evaluateOff s).ca.levelQueue = s.ca.levelQueue := by
  unfold evaluateOff
  dsimp only
  split_ifs <;> simp

@[simp] theorem evaluateOff_levelSending (s : State) : (evaluateOff s).ca.levelSending = s.ca.levelSending := by
  unfold evaluateOff
  dsimp only
  split_ifs <;> simp

@[simp] theorem evaluateOff_levelBits (s : State) : (evaluateOff s).ca.levelBits = s.ca.levelBits := by
  unfold evaluateOff
  dsimp only
  split_ifs <;> simp

@[simp] theorem evaluateOff_participates (s : State) (k : Slot) :
    (evaluateOff s).participates k = s.participates k := by
  apply participates_eq <;> simp

theorem evaluateOff_stands (s : State) : (evaluateOff s).offFlagsStand := by
  intro k
  rw [evaluateOff_slot]
  exact (offNow_eq k (by simp) (by simp) (by simp) (by simp)).symm

/-! ## The level port and the pass -/

@[simp] theorem handOver_slots (ca : Allocator) (f : LevelFrame) : (ca.handOver f).slots = ca.slots := by
  unfold Allocator.handOver
  split_ifs <;> rfl

@[simp] theorem handOver_budget (ca : Allocator) (f : LevelFrame) : (ca.handOver f).budget = ca.budget := by
  unfold Allocator.handOver
  split_ifs <;> rfl

/-- A frame handed over leaves the frames on their way for the other slots as they were. -/
theorem handOver_others (ca : Allocator) (f : LevelFrame) (k : Slot) (h : f.slot ≠ k) :
    (ca.handOver f).framesFor k = ca.framesFor k := by
  have replaced (q : List LevelFrame) :
      (q.map fun g => if g.slot = f.slot then f else g).filter (fun g => g.slot == k) =
        q.filter fun g => g.slot == k := by
    induction q with
    | nil => rfl
    | cons g rest ih =>
      by_cases hg : g.slot = f.slot
      · simp [hg, h, ih]
      · simp [List.filter_cons, hg, ih]
  unfold Allocator.handOver Allocator.framesFor
  split_ifs with h1
  · obtain ⟨hs, hq⟩ : ca.levelSending = none ∧ ca.levelQueue = [] := by simpa using h1
    simp [Allocator.startLevel, hs, hq, h]
  · simp only [List.filter_append, replaced]
  · simp [List.filter_append, h]

/-- A frame handed over is the last on its way for its slot. -/
theorem handOver_last (ca : Allocator) (f : LevelFrame) :
    ((ca.handOver f).framesFor f.slot).getLast? = some f := by
  have replaced (q : List LevelFrame) (h : q.any (fun g => g.slot == f.slot) = true) :
      ((q.map fun g => if g.slot = f.slot then f else g).filter fun g => g.slot == f.slot).getLast? = some f := by
    have all : ∀ x ∈ (q.map fun g => if g.slot = f.slot then f else g).filter (fun g => g.slot == f.slot), x = f := by
      intro x hx
      obtain ⟨hm, hs⟩ := List.mem_filter.mp hx
      obtain ⟨g, -, rfl⟩ := List.mem_map.mp hm
      split_ifs at hs ⊢ with hg
      · rfl
      · exact absurd (by simpa using hs) hg
    obtain ⟨g, hg, hs⟩ := List.any_eq_true.mp h
    have mem : f ∈ (q.map fun g => if g.slot = f.slot then f else g).filter (fun g => g.slot == f.slot) :=
      List.mem_filter.mpr ⟨List.mem_map.mpr ⟨g, hg, if_pos (by simpa using hs)⟩, by simp⟩
    rw [List.getLast?_eq_getLast_of_ne_nil (List.ne_nil_of_mem mem), all _ (List.getLast_mem _)]
  unfold Allocator.handOver Allocator.framesFor
  split_ifs with h1 h2
  · obtain ⟨-, hq⟩ : ca.levelSending = none ∧ ca.levelQueue = [] := by simpa using h1
    simp [Allocator.startLevel, hq]
  · rw [List.filter_append, List.getLast?_append, replaced _ h2]
    rfl
  · simp [List.filter_append]

/-- A level sent for a slot leaves the frames on their way for the other slots as they were. -/
theorem sendLevel_others (ca : Allocator) (j k : Slot) (n : Nat) (h : j ≠ k) :
    (ca.sendLevel j n).framesFor k = ca.framesFor k := handOver_others ca ⟨j, n⟩ k h

/-- A level sent for a slot is carried by the last frame on its way for the slot. -/
theorem sendLevel_last (ca : Allocator) (k : Slot) (n : Nat) :
    ((ca.sendLevel k n).framesFor k).getLast? = some ⟨k, n⟩ := handOver_last ca ⟨k, n⟩

/-- The bits of a level frame are those that R182 lays out. -/
theorem levelFrame_bits (f : LevelFrame) : f.bits = levelBitsOf f := rfl

@[simp] theorem sendLevel_budget (ca : Allocator) (k : Slot) (n : Nat) : (ca.sendLevel k n).budget = ca.budget := by
  simp [Allocator.sendLevel]

/-- A level handed over is the slot's last-sent level, and no other field of the table changes. -/
theorem sendLevel_slot (ca : Allocator) (k j : Slot) (n : Nat) :
    (ca.sendLevel k n).slots.get j = if j = k then { ca.slots.get j with lastSent := n } else ca.slots.get j := by
  simp [Allocator.sendLevel, Six.get_modify]

/-- At the end of a pass the slot's last-sent level is its grant. -/
theorem handLevel_slot (k j : Slot) (s : State) :
    (handLevel k s).ca.slots.get j =
      if j = k then { s.ca.slots.get j with lastSent := (s.ca.slots.get j).grant } else s.ca.slots.get j := by
  unfold handLevel
  split_ifs with h1 h2 h2
  · subst h2
    simp [sendLevel_slot]
  · simp [sendLevel_slot, h2]
  · subst h2
    have : (s.ca.slots.get j).grant = (s.ca.slots.get j).lastSent := by
      simpa [SlotRecord.needsFrame] using h1
    rw [this]
  · rfl

@[simp] theorem handLevel_budget (k : Slot) (s : State) : (handLevel k s).ca.budget = s.ca.budget := by
  unfold handLevel
  split_ifs <;> simp

theorem allot_slot (s : State) (k : Slot) :
    (allot s).ca.slots.get k =
      { s.ca.slots.get k with
        request := s.requests.get k, grant := (shareOut s.requests s.floors s.ca.budget).get k } := by
  simp [allot]

/-- What a pass makes of a slot's record: its request, its grant, and the grant as last-sent level. -/
theorem pass_slot (s : State) (k : Slot) :
    (pass s).ca.slots.get k =
      { s.ca.slots.get k with
        request := s.requests.get k
        grant := (shareOut s.requests s.floors s.ca.budget).get k
        lastSent := (shareOut s.requests s.floors s.ca.budget).get k } := by
  unfold pass
  dsimp only
  split_ifs <;> cases k <;> simp [Slot.all, handLevel_slot, allot_slot]

@[simp] theorem pass_budget (s : State) : (pass s).ca.budget = s.ca.budget := by
  unfold pass
  dsimp only
  split_ifs <;> simp [Slot.all]

@[simp] theorem pass_participates (s : State) (k : Slot) : (pass s).participates k = s.participates k := by
  apply participates_eq <;> simp [pass_slot]

@[simp] theorem pass_offNow (s : State) (k : Slot) : (pass s).offNow k = s.offNow k := by
  apply offNow_eq <;> simp [pass_slot]

theorem pass_keeps_off (s : State) (h : s.offFlagsStand) : (pass s).offFlagsStand := by
  intro k
  simp [pass_slot, h k]

/-- A slot that does not participate leaves a pass with request, grant and last-sent level 0. -/
theorem pass_silent (s : State) (k : Slot) (h : s.participates k = false) :
    (pass s).ca.slots.get k = { s.ca.slots.get k with request := 0, grant := 0, lastSent := 0 } := by
  have hr : s.requests.get k = 0 := by simp [State.requests, h]
  have hf : s.floors.get k = 0 := by simp [State.floors, h]
  have hg : (shareOut s.requests s.floors s.ca.budget).get k = 0 := by
    unfold shareOut
    split_ifs <;> simp [hr, hf]
  rw [pass_slot, hr, hg]

/-! ## The peer line -/

/-- At idle a receiver decodes the frame from its start bit. -/
theorem peerFrame_atIdle {s : State} (h : s.receives) {line : Arrival} (hn : s.lc.idleNeed ≤ line.recessive)
    (hold : Bool) : execPeerFrameReceived line hold s = .next (receiveFrame line.samples hold s) := by
  obtain ⟨ha, hu, hd, hb, ho⟩ := h
  simp [execPeerFrameReceived, ha, hu, hd, hb, ho, Line.idleAt, hn]

/-- In the rest of a frame in which the node met its own bit error the idle count does not matter. -/
theorem peerFrame_inRest {s : State} (h : s.hears) (ho : s.lc.inOwnErroredFrame = true) (line : Arrival)
    (hold : Bool) : execPeerFrameReceived line hold s = .next (receiveRest line.samples hold s) := by
  obtain ⟨ha, hu, hd, hb⟩ := h
  simp [execPeerFrameReceived, ha, hu, hd, hb, ho]

/-! ## The Fault Log -/

/-- The rest of an errored frame is checked for a twin only where the node did not send it (R73). -/
theorem takeRest_sent {s : State} {a : Attempt} {queued : Bool} (h : s.lc.phase = .errored a queued .sent) (f : Frame)
    (hold : Bool) : takeRest f hold s = frameEnds hold (driveBits false false s) := by
  simp [takeRest, Line.restUnsent, h]

theorem takeRest_notTwin {s : State} {f : Frame} (h : s.seesTwin f = false) (hold : Bool) :
    takeRest f hold s = frameEnds hold (driveBits false false s) := by
  simp [takeRest, h]

theorem takeRest_twin {s : State} {a : Attempt} {queued : Bool} {f : Frame}
    (hp : s.lc.phase = .errored a queued .unsent) (h : s.seesTwin f = true) (hold : Bool) :
    takeRest f hold s = frameEnds hold (driveBits false false (offer f (duplicateAddress s))) := by
  simp [takeRest, Line.restUnsent, hp, h]

@[simp] theorem evaluate_isActive (fr : Recorder) (k : Key) : fr.evaluate.isActive k = fr.isActive k := rfl
@[simp] theorem evaluate_log (fr : Recorder) : fr.evaluate.log = fr.log := rfl
@[simp] theorem evaluate_mask (fr : Recorder) : fr.evaluate.mask = fr.mask := rfl
@[simp] theorem evaluate_nextSeq (fr : Recorder) : fr.evaluate.nextSeq = fr.nextSeq := rfl
@[simp] theorem evaluate_saturated (fr : Recorder) : fr.evaluate.saturated = fr.saturated := rfl

@[simp] theorem create_mask (fr : Recorder) (now : Nat) (k : Key) (x : Option (Int × Int)) :
    (fr.create now k x).mask = fr.mask := by
  unfold Recorder.create
  dsimp only
  split_ifs <;> rfl

@[simp] theorem raise_mask (fr : Recorder) (now : Nat) (k : Key) (x : Option (Int × Int)) :
    (fr.raise now k x).mask = fr.mask := by
  unfold Recorder.raise
  split_ifs <;> simp

@[simp] theorem clear_mask (fr : Recorder) (now : Nat) (k : Key) : (fr.clear now k).mask = fr.mask := by
  unfold Recorder.clear
  split_ifs <;> simp

/-- After a raise into a log with a free place the key has an Active record. -/
theorem raise_active (fr : Recorder) (now : Nat) (k : Key) (x : Option (Int × Int)) (h : fr.log.length < 32) :
    (fr.raise now k x).isActive k = true := by
  unfold Recorder.raise
  split_ifs with h1 h2
  · exact h1
  · obtain ⟨r, hr, hk⟩ := List.any_eq_true.mp h2
    refine List.any_eq_true.mpr ⟨r.reactivate now x, List.mem_map.mpr ⟨r, hr, ?_⟩, ?_⟩
    · rw [if_pos (by simpa using hk)]
    · simpa [Record.reactivate] using hk
  · rw [evaluate_isActive]
    have h' : fr.log.length < Config.logPlaces := h
    simp [Recorder.create, h', Recorder.isActive, newRecord]

/-- After a clear no record with the key is Active. -/
theorem clear_inactive (fr : Recorder) (now : Nat) (k : Key) : (fr.clear now k).isActive k = false := by
  unfold Recorder.clear
  split_ifs with h
  · rw [evaluate_isActive]
    refine List.any_eq_false.mpr fun r hr => ?_
    obtain ⟨x, -, hx⟩ := List.mem_filterMap.mp hr
    split_ifs at hx with hc
    · unfold Record.ended at hx
      split_ifs at hx
      obtain rfl := Option.some.inj hx
      simp
    · obtain rfl := Option.some.inj hx
      simpa using hc
  · simpa using h

end Sys2Proof.Machine
end

