-- ==== Sys2Proof/WellFormed.lean ====
section
/-! DEFINITION. What an operand may be for the event to be one that the part's lines can bring. The meanings are
total and do not rely on it. -/

namespace Sys2Proof

/-- A neighbour's address is 1 to 60 (R98). -/
def Instr.addressOk (a : Nat) : Bool := decide (1 ≤ a) && decide (a ≤ 60)

/-- A setting image read ends at the 128th byte (R157); the line of a received frame begins with its dominant start
bit (R64); an entry of the Neighbour Table has an address 1 to 60 (R98); a position in a frame on the wire lies in
the 367 bit times of the longest frame with every possible stuff bit (R62, R64). -/
def Instr.wellFormed : Instr → Bool
  | .settingImageReadEnd bytes => decide (bytes.length ≤ 128)
  | .staleDeadline a => Instr.addressOk a
  | .silentDeadline a => Instr.addressOk a
  | .goneDeadline a => Instr.addressOk a
  | .peerFrameReceived line _ =>
    match line.samples with
    | [] => false
    | x :: _ => !x.majority
  | .arbitrationLost p _ => decide (p < 367)
  | .bitError p _ _ _ => decide (p < 367)
  | .fullReset _ => true
  | .measurementFrame _ => true
  | .levelFrameSent => true
  | .sampleTimerExpiry => true
  | .holdOffExpiry _ => true
  | .cleanRunExpiry _ => true
  | .roundTimerExpiry => true
  | .roundCommit => true
  | .joinTimerExpiry => true
  | .beaconTimerExpiry => true
  | .coolDownExpiry => true
  | .transmissionStart _ => true
  | .transmitFrameEnd _ _ => true
  | .bitErrorSettle _ => true
  | .breakDetected => true
  | .breakEnd => true
  | .beaconApply => true
  | .commandHandover => true
  | .frameDrop => true
  | .identify => true
  | .ackFaults => true
  | .clearTrip => true
  | .restore => true
  | .restart => true
  | .dump => true
  | .replyEnqueue => true
  | .streamFrameBuild => true
  | .softRestartBegin => true
  | .resetInputAsserted => true

end Sys2Proof
end

