-- ==== Sys2Proof/Tests/Slice0.lean ====
section
/-! SUPPORT. Small tests of single commands against the manual's worked examples, the smoke test of WellFormed, and for
each obligation with hypotheses a witness: a concrete state and operands that meet them. -/

namespace Sys2Proof.Tests

set_option Elab.async false

open Sys2Proof Sys2Proof.Machine

/-! ## Helpers -/

/-- The state a command leaves. -/
def after (c : Instr) (s : State) : State :=
  match exec c s with
  | .next t => t
  | .fault _ => s
  | .refused _ => s

/-- A bit with three equal samples. -/
def clean (b : Bool) : Sample := ⟨b, b, b⟩

/-- The line while a frame is sent. -/
def lineOf (f : Frame) : List Sample := (wireBits f).map fun w => clean w.bit

/-- A slot of the image in the tests. -/
def slotEntry (operator sector nominal floor maximum : Nat) : SlotSetting :=
  { operator := operator, sector := sector, nominal := nominal, floor := floor, maximum := maximum, riseFull := 160 }

/-- The image values of the worked examples: operators 3 and 7 on slots 1 and 2. -/
def image : Setting :=
  { bCfg := 8000, weight := 2, shift := 2, lFull := 800, tSample := 3, tDerate := 70, tCrit := 100, overLimit := 20,
    returnLimit := 4, tripFilter := 2, maxRetries := 2, holdOff := 10, rate := .kbit250, beaconPeriod := 4,
    tRound := 10, biasMax := 8, fillMax := 4, hUp := 120, hDown := 80, lAct := 300, joinCount := 4, mask := 0,
    slots :=
      ⟨slotEntry 3 40 1500 1000 2000, slotEntry 7 41 2000 1200 2500, slotEntry 0 0 0 0 0, slotEntry 0 0 0 0 0,
        slotEntry 0 0 0 0 0, slotEntry 0 0 0 0 0⟩ }

/-- A slot on the air at its nominal power. -/
def slotUp (operator sector nominal floor maximum : Nat) : SlotRecord :=
  { SlotRecord.reset with
    enabled := true, operator := operator, sector := sector, nominal := nominal, floor := floor,
    maximum := maximum, riseFull := 160, load := 500, stale := false, request := nominal, grant := nominal,
    lastSent := nominal }

/-- A slot the image leaves disabled. -/
def slotDown : SlotRecord := { SlotRecord.reset with riseFull := 160 }

/-- Node 21, Serving, at 100 s. -/
def serving : State :=
  { State.reset with
    now := 100000
    mi := { State.reset.mi with sampleTimer := .running 102000 }
    ca :=
      { State.reset.ca with
        slots :=
          ⟨slotUp 3 40 1500 1000 2000, slotUp 7 41 2000 1200 2500, slotDown, slotDown, slotDown, slotDown⟩
        budget := 8000 }
    lc := { Line.reset with inUse := true, beaconPeriod := some 4, beaconTimer := .running 101000 }
    su := { roundTimer := .running 105000, round := none }
    nc :=
      { State.reset.nc with
        state := some .serving, strap := 21, setting := some image, checkValue := 0x1234, resetHeld := false } }

/-- The same node after its strap address was read, while the image is read. -/
def starting : State :=
  { State.reset with nc := { State.reset.nc with strap := 21, reading := some 0, resetHeld := false } }

/-- The same node in another state. -/
def inState (n : NodeState) : State := { serving with nc := { serving.nc with state := some n }, su := State.reset.su }

/-- The node with a slot 1 of another kind. -/
def withSlot1 (r : SlotRecord) : State :=
  { serving with ca := { serving.ca with slots := { serving.ca.slots with a1 := r } } }

/-- Slot 1 off the air in a trip state. -/
def slotOff (trip : TripState) : SlotRecord :=
  { slotUp 3 40 1500 1000 2000 with trip := trip, off := true, request := 0, grant := 0, lastSent := 0 }

/-- The protection state with another state of slot 1. -/
def guarded (g : SlotGuard) : Protection := { serving.pm with slots := { serving.pm.slots with a1 := g } }

/-- The node with another budget in force. -/
def withBudget (b : Nat) : State := { serving with ca := { serving.ca with budget := b } }

/-- The node with other line state. -/
def withLine (f : Line → Line) : State := { serving with lc := f serving.lc }

/-- The node with frames in its Receive Queue. -/
def hearing (q : List Frame) : State := withLine fun lc => { lc with rxQueue := q }

/-- The node with a log. -/
def withLog (log : List Record) (line : Bool) : State :=
  { serving with fr := { serving.fr with log := log, nextSeq := 40, faultLine := line } }

/-- A record that stands. -/
def record (seq : Nat) (k : Key) (active acked : Bool) : Record :=
  { seq := seq, key := k, reading := none, raised := 5, cleared := if active then none else some 9, repeats := 1,
    active := active, acked := acked }

/-- A neighbour's slot. -/
def nbSlot (operator sector load : Nat) : NbSlot := ⟨operator, sector, load, 0, 0, false, false, false⟩

/-- An entry of the Neighbour Table heard at 92 s. -/
def entry (a : Nat) (age : AgeState) (slots : List NbSlot) : Entry :=
  { address := a, age := age, heard := 92000, period := 4, reported := .serving, summary := 0, slots := slots,
    goneFallen := false }

/-- The node with a Neighbour Table. -/
def among (nt : List Entry) : State := { serving with nt := nt }

/-- The bits of a measurement frame of 36 bytes with rise 96 and occupancy 720 on each slot. -/
def measured (forward1 compForward compReflected : Nat) (temperature : Byte) : List Bool :=
  let slot (p : Nat) : List Byte := byteOf 96 :: (be16 720 ++ be16 p)
  let body :=
    slot forward1 ++ slot 1990 ++ slot 0 ++ slot 0 ++ slot 0 ++ slot 0 ++ be16 compForward ++ be16 compReflected ++
      [temperature]
  bitsOfBytes (body ++ [crc8 body])

/-- What that frame says. -/
def reading (forward1 compForward compReflected : Nat) (temperature : Int) : MeasFrame :=
  { rise := ⟨96, 96, 96, 96, 96, 96⟩, occupancy := ⟨720, 720, 720, 720, 720, 720⟩,
    forward := ⟨forward1, 1990, 0, 0, 0, 0⟩, compForward := compForward, compReflected := compReflected,
    temperature := temperature }

/-- 128 bytes of an image: the operators, clamps and temperatures of the examples in R2, R3 and R30. -/
def imageBytes : List Byte :=
  let slot (operator m n f : Nat) : List Byte := [byteOf operator, 40] ++ be16 n ++ be16 f ++ be16 m ++ [160]
  let body : List Byte :=
    [0x57, 0x5A, 1] ++ be16 8000 ++ [2, 2] ++ be16 800 ++ [3, 90, 92, 20, 4, 3, 2, 10, 1, 4, 10, 8, 4] ++ be16 120 ++
      be16 80 ++ be16 300 ++ [4, 0, 0] ++ slot 3 12000 11000 11500 ++ slot 7 2000 2500 1800 ++ slot 3 0 0 0 ++
      slot 0 0 0 0 ++ slot 7 0 0 0 ++ slot 9 100 100 0 ++ List.replicate 41 0
  body ++ be16 (crc16 (bitsOfBytes body)).toNat

/-- A command frame from monitor station 61 to node 21. -/
def command (payload : List Byte) : Frame := { priority := 1, source := 61, kind := 2, dest := 21, payload := payload }

/-- A beacon of node 14, Serving with period 4, operator 7 in sector 41 at load 500. -/
def beacon14 : Frame :=
  { priority := 3, source := 14, kind := 1, dest := 0, payload := [0x84, 1, 0, 0, 0x70, 41, 0x7D, 0x00] }

/-- An attempt to send the beacon marker. -/
def sendingBeacon (probe : Bool) : Attempt := ⟨.beacon, ⟨3, 21, 1, 0, [0x84, 0, 0, 0]⟩, probe⟩

/-! ## Well-formedness and decoding -/

theorem test_wellFormed_image_too_long :
    (Instr.settingImageReadEnd (List.replicate 129 0)).wellFormed = false := by
  simp [Instr.wellFormed]
theorem test_wellFormed_image_whole : (Instr.settingImageReadEnd (List.replicate 128 0)).wellFormed = true := by
  simp [Instr.wellFormed]
theorem test_wellFormed_stale_address_0 : (Instr.staleDeadline 0).wellFormed = false := by decide
theorem test_wellFormed_silent_address_61 : (Instr.silentDeadline 61).wellFormed = false := by decide
theorem test_wellFormed_gone_address_61 : (Instr.goneDeadline 61).wellFormed = false := by decide
theorem test_wellFormed_gone_address_60 : (Instr.goneDeadline 60).wellFormed = true := by decide
theorem test_wellFormed_no_line : (Instr.peerFrameReceived ⟨12, []⟩ false).wellFormed = false := by decide
theorem test_wellFormed_recessive_start : (Instr.peerFrameReceived ⟨12, [clean true]⟩ false).wellFormed = false := by
  decide
theorem test_wellFormed_lost_position : (Instr.arbitrationLost 367 (clean false)).wellFormed = false := by decide
theorem test_wellFormed_error_position : (Instr.bitError 367 (clean false) false false).wellFormed = false := by decide

/-- The table gives no row bits, so no word spells a command. -/
theorem test_no_word_spells_a_command : decodeTableWord 0 0 = none ∧ decodeTableWord 16 0x1234 = none := by decide

/-- The check value of the CRC-16 of R64 over the nine ASCII digits, known from outside the manual. -/
theorem test_crc16_digits :
    crc16 (bitsOfBytes [0x31, 0x32, 0x33, 0x34, 0x35, 0x36, 0x37, 0x38, 0x39]) = 0x29B1 := by decide +kernel

/-! ## Single commands -/

/-- R10's table. -/
theorem test_budget_in_force : (List.range 9).map (budgetOf 8000) =
    [8000, 7500, 7000, 6500, 6000, 5500, 5000, 4500, 4000] ∧ budgetOf 100 1 = 93 := by decide

/-- R2, R3 and R30: the clamps and the disabled slots of the examples. -/
theorem test_image_clamps :
    let g := settingOf imageBytes
    let slots := Six.tabulate fun k => slotDown.loaded g.slots k
    (slots.map fun r => r.enabled) = ⟨true, true, false, false, false, true⟩ ∧
      (slots.map fun r => r.nominal) = ⟨10000, 2000, 0, 0, 0, 100⟩ ∧
      (slots.map fun r => r.floor) = ⟨10000, 1800, 0, 0, 0, 0⟩ ∧ (g.tDerate, g.tCrit, g.tripFilter) = (90, 94, 2) := by
  decide +kernel

theorem test_image_cut_short :
    let t := after (.settingImageReadEnd (imageBytes.take 127)) starting
    t.nc.state = some .unconfigured ∧ t.now = 50 := by decide +kernel

theorem test_full_reset_strap_61 : (after (.fullReset 61) serving).nc.state = some .unconfigured := by decide +kernel

theorem test_reset_input_holds_part : (after .resetInputAsserted serving).nc.resetHeld = true := by decide

/-- Section 2.5, frame 1: load 500 goes to 540. -/
theorem test_load_follows_wave :
    (after (.measurementFrame (measured 1490 3000 100 60)) serving).ca.slots.a1.load = 540 := by decide +kernel

/-- Section 2.7: at 75 degrees step 3 and budget 6500. -/
theorem test_derate_up_at_once :
    let t := after (.measurementFrame (measured 1490 3000 100 75)) serving
    t.mi.derate = 3 ∧ t.ca.budget = 6500 := by decide +kernel

/-- R182: each byte high bit first; the first byte of the frame above is the rise 60h. -/
theorem test_measurement_high_bit_first :
    (measured 1490 3000 100 60).take 8 = [false, true, true, false, false, false, false, false] ∧
      (measured 1490 3000 100 60).length = 288 := by decide +kernel

/-- R17 and R182: the port goes on with the oldest frame, slot 4 at 7 mW: bytes 04h, 00h, 07h and the CRC-8 95h that
the polynomial gives by hand. -/
theorem test_level_frame_sent :
    let t := after .levelFrameSent
      { serving with
        ca :=
          { serving.ca with
            levelSending := some ⟨.s2, 5⟩, levelQueue := [⟨.s4, 7⟩, ⟨.s1, 8⟩] } }
    t.ca.levelQueue = [⟨.s1, 8⟩] ∧
      t.ca.levelBits =
        [false, false, false, false, false, true, false, false] ++ List.replicate 13 false ++ [true, true, true] ++
          [true, false, false, true, false, true, false, true] := by decide +kernel

theorem test_sample_timer_expiry : (after .sampleTimerExpiry serving).mi.sampleTimer = .expired := by decide

/-- Section 3.8 with slot 1 for slot 3: tripped at 1890, hold-off 10 s. -/
theorem test_over_drive_trips :
    let s : State := { serving with pm := guarded { SlotGuard.reset with filter := 1 } }
    let t := after (.measurementFrame (measured 1890 3000 100 60)) s
    t.ca.slots.a1.trip = .tripped ∧ t.pm.slots.a1.holdOff = .running 110000 ∧
      (t.fr.log.map fun r => (r.key, r.reading)) = [(.ofSlot .ovd .s1, some (1890, 1875))] := by decide +kernel

/-- Section 3.8: at a forward power of 1850 the condition fails. -/
theorem test_over_drive_within_limit :
    (after (.measurementFrame (measured 1850 3000 100 60)) serving).pm.slots.a1.filter = 0 := by decide +kernel

/-- Section 3.9: ANT at 1720 over the limit 1450, and the node Withdrawn. -/
theorem test_antenna_latches :
    let s : State := { serving with pm := { serving.pm with antFilter := 1 } }
    let t := after (.measurementFrame (measured 1490 5800 1720 60)) s
    t.nc.state = some .withdrawn ∧ (t.fr.log.map fun r => (r.key, r.reading)) = [(.plain .ant, some (1720, 1450))] := by
  decide +kernel

/-- Section 3.8: the release raises the retry count and the clean-run time is four times the hold-off. -/
theorem test_hold_off_expiry :
    let s : State :=
      { withSlot1 (slotOff .tripped) with pm := guarded { SlotGuard.reset with holdOff := .running 100500 } }
    let t := after (.holdOffExpiry .s1) s
    t.pm.slots.a1.retry = 1 ∧ t.ca.slots.a1.grant = 1500 ∧ t.pm.slots.a1.cleanRun = .running 140500 := by
  decide +kernel

/-- The neighbours of section 7's first example. -/
def neighbours7 : List Entry :=
  [entry 8 .present [nbSlot 3 44 420], entry 11 .present [nbSlot 3 45 610],
    entry 19 .present [{ nbSlot 3 47 950 with full := true }], entry 25 .stale [nbSlot 3 48 200],
    entry 14 .silent [nbSlot 7 41 500]]

/-- Section 7's first example, slots 1 and 2: bias 3, fill 3. -/
theorem test_round_example :
    let s : State :=
      { among neighbours7 with
        ca :=
          { serving.ca with
            slots :=
              { serving.ca.slots with
                a1 := { slotUp 3 40 1500 1000 2000 with load := 780, bias := 2 }
                a2 := { slotUp 7 41 2000 1200 2500 with load := 560, fill := 2 } } } }
    ((after .roundTimerExpiry s).su.round.map Round.decided) =
      some ⟨some ⟨3, 0⟩, some ⟨0, 3⟩, none, none, none, none⟩ := by decide +kernel

/-- R159: join count 4 and period 4 give 8 s; then Serving with the round timer from its full length. -/
theorem test_join_timer_expiry :
    let s := inState .joining
    let t := after .joinTimerExpiry { s with nc := { s.nc with joinTimer := .running 108000 } }
    t.nc.state = some .serving ∧ t.su.roundTimer = .running 118000 := by decide +kernel

/-- Section 6.4: period 4 gives deadlines at 4 s, 8 s and 32 s after 92 s. -/
theorem test_deadlines :
    let s (age : AgeState) := among [entry 14 age [nbSlot 7 12 500]]
    (after (.staleDeadline 14) { s .present with now := 95999 }).now = 96000 ∧
      (after (.silentDeadline 14) (s .stale)).fr.isActive (.ofNeighbour 14) = true ∧
      (after (.goneDeadline 14) (s .silent)).nt = [] ∧ (after (.goneDeadline 14) (s .silent)).now = 124000 := by
  decide +kernel

theorem test_beacon_timer_expiry :
    (after .beaconTimerExpiry serving).lc.txQueue = [.marker false] ∧
      (after .beaconTimerExpiry serving).lc.beaconTimer = .running 103000 := by decide

theorem test_cool_down_expiry :
    (after .coolDownExpiry (withLine fun lc => { lc with mode := .listenOnly, coolTimer := .running 100000 })).lc.mode =
      .probing := by decide

theorem test_peer_frame_received :
    let t := after (.peerFrameReceived ⟨12, lineOf beacon14⟩ false) serving
    t.lc.rxQueue = [beacon14] ∧ t.lc.ackDriven = true ∧ t.lc.window = [.good] := by decide +kernel

theorem test_transmission_start :
    (after (.transmissionStart 12) (withLine fun lc => { lc with txQueue := [.marker true] })).lc.phase =
      .sending ⟨.beacon, ⟨0, 21, 1, 0, serving.beaconPayload⟩, false⟩ := by decide +kernel

theorem test_arbitration_lost :
    (after (.arbitrationLost 1 (clean false))
      (withLine fun lc => { lc with txQueue := [.marker false], phase := .sending (sendingBeacon false) })).lc.phase =
      .quiet := by decide +kernel

theorem test_bit_error :
    (after (.bitError 0 (clean true) false false)
      (withLine fun lc => { lc with txQueue := [.marker false], phase := .sending (sendingBeacon false) })).lc.phase =
      .errored (sendingBeacon false) true .unsent := by decide +kernel

/-- A beacon whose check field ends in six equal bits, so that a stuff bit stands after the last check bit. -/
def stuffedEnd : Attempt := ⟨.beacon, ⟨3, 21, 1, 0, [0x84, 0, 0, 12]⟩, false⟩

/-- R73: a bit error in the stuff bit after the last check bit meets a frame that the node sent. -/
theorem test_bit_error_after_check :
    ((wireBits stuffedEnd.frame)[77]?.map WireBit.role) = some .stuff ∧
      (wireBits stuffedEnd.frame).length = 77 + 12 ∧
      ∀ bit ∈ [false, true], some (!bit) = (wireBits stuffedEnd.frame)[77]?.map WireBit.bit →
        (after (.bitError 77 (clean bit) false false)
          (withLine fun lc => { lc with txQueue := [.marker false], phase := .sending stuffedEnd })).lc.phase =
          .errored stuffedEnd true .sent := by decide +kernel

/-- R70 and R71: the eighth error enters Listen-only with a cool-down of 30 s. -/
theorem test_bit_error_settle :
    let t := after (.bitErrorSettle 12)
      (withLine fun lc =>
        { lc with txQueue := [.marker false], phase := .errored (sendingBeacon false) true .over, txErrors := 7 })
    t.lc.mode = .listenOnly ∧ t.lc.coolTimer = .running 130000 := by decide +kernel

theorem test_transmit_frame_end :
    let t := after (.transmitFrameEnd true true)
      (withLine fun lc =>
        { lc with txQueue := [.marker false], phase := .sending (sendingBeacon false), txErrors := 3, unheard := 2 })
    t.lc.txErrors = 2 ∧ t.lc.unheard = 0 ∧ t.lc.idleNeed = 40 ∧ t.lc.txQueue = [] := by decide +kernel

theorem test_break_detected : (after .breakDetected serving).lc.txQueue = [.marker false] := by decide

theorem test_break_end :
    (after .breakEnd (withLine fun lc => { lc with breakRun := true, idleNeed := 40 })).lc.idleNeed = 12 := by decide

/-- R101 and R180: the entry of node 14 with its slot at load 500. -/
theorem test_beacon_apply :
    (after .beaconApply (hearing [beacon14])).nt =
      [{ entry 14 .present [nbSlot 7 41 500] with heard := 100000 }] := by decide +kernel

theorem test_frame_drop : (after .frameDrop (hearing [{ beacon14 with kind := 9 }])).lc.rxQueue = [] := by decide

theorem test_identify :
    (after .commandHandover (hearing [command [1, 7]])).cu.current =
      some ⟨command [1, 7], ⟨61, [7, 1, 0, 0x06, 0x40, 2, 21, 0x12, 0x34, 2, 0], false, none⟩⟩ ∧
      after .identify (hearing [command [1, 7]]) = after .commandHandover (hearing [command [1, 7]]) := by
  decide +kernel

theorem test_ack_faults :
    let s := { withLog [record 1 (.plain .cfg) true false, record 2 (.plain .smp) false false] true with
      lc := { serving.lc with rxQueue := [command [2, 7, 0, 2]] } }
    (after .ackFaults s).fr.log = [record 1 (.plain .cfg) true true] := by decide +kernel

theorem test_clear_trip :
    let s := { withSlot1 (slotOff .latched) with lc := { serving.lc with rxQueue := [command [3, 7, 1]] } }
    (after .clearTrip s).ca.slots.a1.trip = .clear ∧ (after .clearTrip s).ca.slots.a1.lastSent = 1500 := by
  decide +kernel

theorem test_restore :
    let s := { inState .withdrawn with lc := { serving.lc with rxQueue := [command [4, 7]] } }
    (after .restore s).nc.state = some .joining ∧ (after .restore s).nc.joinTimer = .running 108000 := by decide +kernel

theorem test_restart : (after .restart (hearing [command [5, 7]])).nc.restart = .pending := by decide +kernel

theorem test_soft_restart_begin :
    (after .softRestartBegin
      { serving with nc := { serving.nc with restart := .pending, restartDue := true } }).nc.reading =
      some 100000 := by decide +kernel

/-- R176: 32 records of table 3 from position 4 on give 2. -/
theorem test_dump :
    (after .dump (hearing [command [6, 7, 3, 4, 32]])).cu.current.map (fun c => c.reply.payload) =
      some [7, 6, 0, 2] := by decide +kernel

theorem test_reply_enqueue :
    (after .replyEnqueue
      { serving with
        cu := { current := some ⟨command [5, 7], ⟨61, [7, 5, 0], true, none⟩⟩, stream := none } }).lc.txQueue =
      [.reply 61 [7, 5, 0] true] := by decide +kernel

/-- R181: table 1 at position 0, marked ended short in an empty log: marker 2 in bits 4 and 3 beside table id 1. -/
theorem test_stream_frame_build :
    (after .streamFrameBuild
      { serving with
        cu :=
          { current := none
            stream :=
              some
                { requester := 61, tag := 7, table := 1, next := 0, stop := 2, unheard := 0,
                  final := false } } }).lc.txQueue = [.stream 61 [7, 48, 0] true] := by decide +kernel

/-! ## Witnesses: states and operands that meet the obligations' hypotheses -/

/-- A check field that is the CRC-16 of 126 bytes with the right marker and version makes a good image (R157). -/
theorem imageGood_append (rest : List Byte) (h : rest.length = 123) :
    imageGood
      ([0x57, 0x5A, 1] ++ rest ++ be16 (crc16 (bitsOfBytes ([0x57, 0x5A, 1] ++ rest))).toNat) = true := by
  have hlen : ([0x57, 0x5A, 1] ++ rest : List Byte).length = 126 := by simp [h]
  generalize hb : ([0x57, 0x5A, 1] ++ rest : List Byte) = body at hlen
  have h0 : ∀ tail : List Byte, byteAt (body ++ tail) 0 = 0x57 ∧ byteAt (body ++ tail) 1 = 0x5A ∧
      byteAt (body ++ tail) 2 = 1 := by
    intro tail
    subst hb
    refine ⟨rfl, rfl, rfl⟩
  have hw : ∀ n : Nat, n < 65536 → wordAt (body ++ be16 n) 126 = n := by
    intro n hn
    simp [wordAt, byteAt, be16, byteOf, hlen]
    omega
  have ht : ∀ n : Nat, (body ++ be16 n).take 126 = body := by
    intro n
    rw [List.take_append_of_le_length (by omega), List.take_of_length_le (by omega)]
  unfold imageGood imageCrc
  rw [(h0 _).1, (h0 _).2.1, (h0 _).2.2, hw _ (BitVec.isLt _), ht]
  simp

/-- The node with a standing record, a reply and a marker to send, a neighbour and a level frame on its way. -/
def troubled : State :=
  { among [entry 14 .stale [nbSlot 7 12 500]] with
    ca :=
      { serving.ca with
        slots :=
          { serving.ca.slots with
            a1 :=
              { slotUp 3 40 1500 1000 2000 with bias := 2, request := 1190, grant := 1190, lastSent := 1190 } }
        levelSending := some ⟨.s2, 2000⟩, levelBits := levelBitsOf ⟨.s2, 2000⟩, levelQueue := [⟨.s1, 1190⟩] }
    fr := { serving.fr with log := [record 1 (.plain .smp) true false], nextSeq := 2, faultLine := true }
    lc := { serving.lc with txQueue := [.marker true, .reply 61 [7, 1, 0] false], window := [.good, .bad] }
    pending := [.roundTimerExpiry] }

/-- The node in Listen-only. -/
def silenced : State :=
  { troubled with
    lc := { troubled.lc with mode := .listenOnly, txQueue := [.marker true], coolTimer := .running 120000 } }

theorem witness_StepRunsFrontCommand :
    (serving.acts ∧ serving.pending = []) ∧ ¬ State.reset.acts ∧ State.reset.pending = [] := by
  unfold State.acts
  decide

theorem witness_EveryCommandIsAnswered :
    ¬ State.reset.acts ∧ (∀ straps, Instr.levelFrameSent ≠ .fullReset straps) ∧
      Instr.levelFrameSent ≠ .resetInputAsserted := by
  refine ⟨by unfold State.acts; decide, (fun _ h => nomatch h), (fun h => nomatch h)⟩

theorem step_troubled : step troubled = .next (after .roundTimerExpiry { troubled with pending := [] }) := rfl
theorem step_silenced : step silenced = .next (after .roundTimerExpiry { silenced with pending := [] }) := rfl

theorem witness_FaultLineLawKept : FaultLineLaw troubled ∧ ∃ t, step troubled = .next t :=
  ⟨by unfold FaultLineLaw; decide, _, step_troubled⟩

theorem protection_troubled : ProtectionLaw troubled := by
  refine ⟨?_, by decide, ?_, ?_⟩
  · intro k; cases k <;> decide
  · intro g h
    obtain rfl : image = g := Option.some.inj h
    exact ⟨by decide, by decide, by decide, by intro k; cases k <;> decide⟩
  · rintro (h | h) <;> exact nomatch h

theorem active_troubled : ActiveLaw troubled := by
  intro r hr _
  obtain rfl : r = record 1 (.plain .smp) true false := List.mem_singleton.mp hr
  exact ⟨by decide, (fun h => nomatch h), (fun h => nomatch h), (fun _ h => nomatch h), (fun h => nomatch h),
    (fun h => nomatch h), (fun h => by revert h; decide)⟩

theorem witness_FaultLogLawKept :
    FaultLogLaw troubled ∧ NeighbourLaw troubled ∧ ControlLaw troubled ∧ ProtectionLaw troubled ∧
      ActiveLaw troubled ∧ ∃ t, step troubled = .next t :=
  ⟨by unfold FaultLogLaw Record.sound; decide, by unfold NeighbourLaw Entry.sound; decide,
    by unfold ControlLaw; decide, protection_troubled, active_troubled, _, step_troubled⟩

theorem witness_PowerLawKept : PowerLaw troubled ∧ ∃ t, step troubled = .next t := by
  refine ⟨⟨⟨?_, ?_, ?_, ?_⟩, ?_, ?_⟩, _, step_troubled⟩
  · intro k; cases k <;> decide
  · intro k; cases k <;> decide
  · intro k; cases k <;> decide
  · decide
  · intro k; cases k <;> decide
  · decide

theorem witness_LevelPortLawKept : LevelPortLaw troubled ∧ ∃ t, step troubled = .next t := by
  refine ⟨⟨by decide, by decide, rfl, ?_⟩, _, step_troubled⟩
  intro k f h
  cases k <;> (revert h; simp [Allocator.framesFor, troubled, among, serving, State.reset]) <;>
    (rintro rfl; rfl)

theorem witness_TrimLawKept : TrimLaw troubled ∧ ControlLaw troubled ∧ ∃ t, step troubled = .next t := by
  refine ⟨⟨?_, (fun r h => nomatch h), ?_⟩, by unfold ControlLaw; decide, _, step_troubled⟩
  · intro k; unfold trimsAllowed; cases k <;> decide
  · intro g h
    obtain rfl : image = g := Option.some.inj h
    decide

theorem witness_SettingLawKept : SettingLaw troubled ∧ ∃ t, step troubled = .next t := by
  refine ⟨⟨?_, rfl, ?_⟩, _, step_troubled⟩
  · intro k; cases k <;> decide
  · intro k; cases k <;> decide

theorem witness_QueueLawKept : QueueLaw troubled ∧ ∃ t, step troubled = .next t :=
  ⟨by unfold QueueLaw; decide, _, step_troubled⟩

theorem witness_NeighbourLawKept : NeighbourLaw troubled ∧ ∃ t, step troubled = .next t :=
  ⟨by unfold NeighbourLaw Entry.sound; decide, _, step_troubled⟩

theorem witness_ControlLawKept : ControlLaw troubled ∧ ProtectionLaw troubled ∧ ∃ t, step troubled = .next t :=
  ⟨by unfold ControlLaw; decide, protection_troubled, _, step_troubled⟩

theorem witness_ListenOnlyLawKept :
    ListenOnlyLaw silenced ∧ silenced.lc.mode = .listenOnly ∧ ∃ t, step silenced = .next t :=
  ⟨by unfold ListenOnlyLaw; decide, rfl, _, step_silenced⟩

/-- A clean frame with something after it on the line. -/
theorem witness_SentFrameIsReceivedWhole :
    beacon14.fits ∧
      (wireBits beacon14).map WireBit.bit <+: (lineOf beacon14 ++ [clean false]).map Sample.majority := by
  refine ⟨by unfold Frame.fits; decide, [false], ?_⟩
  simp [lineOf, clean, Sample.majority, Function.comp_def]

/-- A frame on the line with one noisy bit, of the value sent. -/
def noisyAt (f : Frame) (i : Nat) : List Sample :=
  (lineOf f).modify i fun x => ⟨x.majority, x.majority, !x.majority⟩

/-- R61: a noisy start bit marks the frame, and so does a noisy last check bit, at 76 of this frame; the stuff bit after
it and the last end bit do not. -/
theorem test_noise_through_last_check_bit :
    [0, 76, 77, 88].map (fun i => decodeFrame (noisyAt stuffedEnd.frame i)) =
      [.good stuffedEnd.frame true, .good stuffedEnd.frame true, .good stuffedEnd.frame false,
        .good stuffedEnd.frame false] := by decide +kernel

/-- Fields above their ranges, below them, and within them; the three rates; operators 15 and 16. -/
theorem witness_LoadedSettingWithinRanges :
    let high : List Byte := List.replicate 128 127
    let low : List Byte := List.replicate 128 0
    (20000 < wordAt high 3 ∧ 4 < byteAt high 5 ∧ 121 < signedAt high 10 ∧ 15 < byteAt high 31 ∧
        10000 < wordAt high 37 ∧ byteAt high 17 ≠ 0 ∧ byteAt high 17 ≠ 2) ∧
      (wordAt low 3 < 100 ∧ byteAt low 9 < 1 ∧ signedAt low 10 < 20 ∧ byteAt low 38 < 16 ∧ byteAt low 17 = 0 ∧
        byteAt low 14 < 1) ∧
      (100 ≤ wordAt imageBytes 3 ∧ wordAt imageBytes 3 ≤ 20000 ∧ 1 ≤ byteAt imageBytes 14 ∧
        byteAt (imageBytes.set 17 2) 17 = 2 ∧ byteAt imageBytes 31 ≤ 15) := by decide +kernel

theorem witness_BeaconPayloadIsReadBack :
    serving.nc.state = some .serving ∧ serving.lc.beaconPeriod = some 4 ∧
      (∀ e ∈ serving.beaconSlots, 1 ≤ e.operator ∧ e.operator ≤ 15 ∧ e.sector ≤ 255 ∧ e.load ≤ 1000 ∧ e.bias ≤ 12 ∧
        e.fill ≤ 6) ∧
      (serving.beaconSlots.map NbSlot.operator).Nodup := by decide

/-- The three cases at their edges: requests of 3500 and effective floors of 2200 together. -/
theorem witness_PassDividesBudget :
    (withBudget 3500).requests.sum ≤ (withBudget 3500).ca.budget ∧
      (withBudget 3499).ca.budget < (withBudget 3499).requests.sum ∧
      (withBudget 2200).floors.sum ≤ (withBudget 2200).ca.budget ∧
      (withBudget 2199).ca.budget < (withBudget 2199).floors.sum ∧ (withBudget 2199).fr.log.length < 32 := by decide

/-- A participating slot with a retry and a stopped clean-run timer, one whose timer runs, one without a retry, and one
that does not participate. -/
theorem witness_PassDividesBudget_cleanRun :
    let s := { serving with
      pm :=
        { serving.pm with
          slots :=
            { serving.pm.slots with
              a1 := { SlotGuard.reset with retry := 1 }
              a2 := { SlotGuard.reset with retry := 1, cleanRun := .running 101000 } } } }
    s.nc.setting = some image ∧ s.participates .s1 = true ∧ 0 < (s.pm.slots.get .s1).retry ∧
      (s.pm.slots.get .s1).cleanRun = .stopped ∧ s.participates .s2 = true ∧
      (s.pm.slots.get .s2).cleanRun ≠ .stopped ∧ serving.participates .s1 = true ∧
      (serving.pm.slots.get .s1).retry = 0 ∧ s.participates .s3 = false := by decide

theorem witness_TruncationLosesLittle :
    (withBudget 3499).ca.budget < ((pass (withBudget 3499)).ca.slots.map SlotRecord.request).sum := by decide

theorem witness_PassSendsChangedLevelsOnly :
    ∀ k, ((pass serving).ca.slots.get k).grant = (serving.ca.slots.get k).lastSent := by
  intro k; cases k <;> decide

/-- Both grants change: on an idle port, and on a port that sends slot 2 while slot 1 waits. -/
theorem witness_PassSendsChangedLevelsOnly_changed :
    (∀ k ∈ [Slot.s1, .s2], ((pass (withBudget 2199)).ca.slots.get k).grant ≠
      ((withBudget 2199).ca.slots.get k).lastSent) ∧
      (withBudget 2199).ca.levelSending = none ∧ (withBudget 2199).ca.levelQueue = [] ∧
      (let s := { troubled with ca := { troubled.ca with budget := 2199 } }
       s.ca.levelSending ≠ none ∧
         ∀ k ∈ [Slot.s1, .s2], ((pass s).ca.slots.get k).grant ≠ (s.ca.slots.get k).lastSent) := by decide +kernel

/-- R17: slot 1 keeps its waiting place with the new grant, slot 2 joins the end behind the frame it is sending. -/
theorem test_pass_hands_levels :
    let t := pass { troubled with ca := { troubled.ca with budget := 2199 } }
    t.ca.levelQueue.map LevelFrame.slot = [.s1, .s2] ∧ t.ca.levelSending = some ⟨.s2, 2000⟩ := by decide +kernel

/-- NBL records of the neighbours 1 to n. -/
def nblRecords (n : Nat) : List Record := (List.range n).map fun i => record i (.ofNeighbour (i + 1)) true false

theorem witness_RaiseAndClear_active :
    ∃ r ∈ nblRecords 31, r.key = .ofNeighbour 31 ∧ r.active = true := by decide

theorem witness_RaiseAndClear_cleared :
    let log := nblRecords 2 ++ record 7 (.plain .smp) false false :: nblRecords 0
    log = nblRecords 2 ++ record 7 (.plain .smp) false false :: [] ∧
      (record 7 (.plain .smp) false false).key = .plain .smp ∧ (record 7 (.plain .smp) false false).active = false ∧
      ∀ x ∈ nblRecords 2 ++ [], x.key ≠ .plain .smp := by decide

theorem witness_RaiseAndClear_room :
    (∀ x ∈ nblRecords 31, x.key ≠ .plain .smp) ∧ (nblRecords 31).length < 32 := by decide

theorem witness_RaiseAndClear_full :
    let old := record 7 (.plain .smp) false false
    let log := nblRecords 20 ++ old :: (nblRecords 31).drop 20
    (∀ x ∈ log, x.key ≠ .plain .iso) ∧ log.length = 32 ∧ (∀ x ∈ nblRecords 20, x.active = true) ∧
      old.active = false := by decide

theorem witness_RaiseAndClear_clear :
    (∀ x ∈ nblRecords 3, x.key = .plain .smp → x.active = false) ∧
      nblRecords 3 = [record 0 (.ofNeighbour 1) true false] ++ record 1 (.ofNeighbour 2) true false ::
        [record 2 (.ofNeighbour 3) true false] ∧
      (∀ x ∈ [record 0 (.ofNeighbour 1) true false] ++ [record 2 (.ofNeighbour 3) true false],
        x.key ≠ .ofNeighbour 2) := by decide

theorem witness_SecondSevereFaultWithdraws :
    let s := withLog [record 1 (.plain .cfg) true false] true
    Kind.dup.faultClass = .severe ∧ (∀ r ∈ s.fr.log, r.key = .plain .dup → r.active = false) ∧
      s.fr.log.length < 32 ∧
      (∃ r ∈ s.fr.log, r.key ≠ .plain .dup ∧ r.key.kind.faultClass = .severe ∧ r.active = true ∧ r.acked = false) ∧
      s.onAir = true ∧ s.nc.restart ≠ .inProgress := by decide

/-- The same with no other Severe record: ANT by itself, and DUP alone. -/
theorem witness_SecondSevereFaultWithdraws_alone :
    Kind.ant.faultClass = .severe ∧ (Key.plain .ant).kind = .ant ∧ (Key.plain .dup).kind ≠ .ant ∧
      serving.onAir = true ∧
      ¬ ∃ r ∈ serving.fr.log, r.key ≠ .plain .dup ∧ r.key.kind.faultClass = .severe ∧ r.active = true ∧
        r.acked = false := by decide

/-- With another Severe record, in Withdrawn, in Unconfigured, before the first state and during a soft restart. -/
theorem witness_SecondSevereFaultWithdraws_stays :
    (∀ n ∈ [NodeState.withdrawn, .unconfigured],
      ({ inState n with fr := (withLog [record 1 (.plain .cfg) true false] true).fr } : State).onAir = false) ∧
      ({ starting with fr := (withLog [record 1 (.plain .cfg) true false] true).fr } : State).onAir = false ∧
      ({ serving with
          fr := (withLog [record 1 (.plain .cfg) true false] true).fr
          nc := { serving.nc with restart := .inProgress } } : State).nc.restart = .inProgress := by decide

/-- An alarm with no beacon under way, with one under way, and during a soft restart; an off flag that changes. -/
theorem witness_SecondSevereFaultWithdraws_alarm :
    let s := withLog [record 1 (.plain .cfg) true false] true
    s.nc.restart ≠ .inProgress ∧ s.lc.beaconUnderWay = false ∧ s.lc.mode = .normal ∧
      (∀ b ∈ s.lc.lastBreak, b + 10000 ≤ s.now) ∧
      (withLine fun lc => { lc with phase := .sending (sendingBeacon false) }).lc.beaconUnderWay = true ∧
      ({ s with nc := { s.nc with restart := .inProgress } } : State).nc.restart = .inProgress ∧
      ∃ k, ((inState .withdrawn).ca.slots.get k).enabled = true ∧
        ((inState .withdrawn).ca.slots.get k).off ≠ (inState .withdrawn).offNow k :=
  ⟨by decide, rfl, rfl, by decide, rfl, rfl, .s1, by decide⟩

theorem witness_FullResetStartsThePart :
    (1 ≤ (1 : BitVec 6).toNat ∧ (60 : BitVec 6).toNat ≤ 60) ∧ (0 : BitVec 6).toNat = 0 ∧
      61 ≤ (61 : BitVec 6).toNat := by
  decide

theorem witness_GoodImageEntersJoining :
    starting.acts ∧ starting.nc.reading = some 0 ∧ imageBytes.length = 128 ∧ imageGood imageBytes = true :=
  ⟨rfl, rfl, by decide +kernel, imageGood_append _ (by decide +kernel)⟩

/-- The completion of a soft restart by a node derated and muted at 101 degrees. -/
def restarting : State :=
  { starting with
    mi := { starting.mi with lastFrame := some (reading 0 0 0 101), derate := 8, mute := true }
    nc := { starting.nc with state := some .serving, restart := .inProgress } }

theorem witness_GoodImageEntersJoining_restart :
    restarting.acts ∧ restarting.nc.reading = some 0 ∧ restarting.nc.restart = .inProgress ∧
      restarting.fr.log.length ≤ 30 ∧ 0 < restarting.mi.derate ∧ restarting.mi.mute = true ∧
      restarting.fr.isActive (.plain .thm) = false ∧ restarting.fr.isActive (.plain .thx) = false :=
  ⟨rfl, rfl, rfl, by decide, by decide, rfl, by decide, by decide⟩

/-- R43: THM over 90 and THX over 94 degrees at 101. -/
theorem test_thermal_records_again :
    ((raiseThermalAgain (settingOf imageBytes) restarting).fr.log.map fun r => (r.key, r.reading)) =
      [(.plain .thm, some (101, 90)), (.plain .thx, some (101, 94))] := by decide +kernel

theorem witness_BadImageEntersUnconfigured :
    starting.acts ∧ starting.nc.reading = some 0 ∧ (imageBytes.take 127).length < 128 ∧
      (List.replicate 128 (0 : Byte)).length = 128 ∧ imageGood (List.replicate 128 0) = false ∧
      starting.fr.log.length < 32 ∧ starting.lc.phase = .quiet :=
  ⟨rfl, rfl, by decide +kernel, by simp, by decide +kernel, by decide, rfl⟩

theorem witness_SoftRestartSetsBlocks :
    let s := { serving with nc := { serving.nc with restart := .pending, restartDue := true } }
    (s.acts ∧ s.nc.restart = .pending ∧ s.nc.restartDue = true ∧ ∀ a, s.lc.phase ≠ .sending a) ∧
      serving.acts ∧ serving.nc.restart ≠ .pending ∧ (s.ca.slots.get .s1).lastSent ≠ 0 ∧
      (s.ca.slots.get .s3).lastSent = 0 :=
  ⟨⟨rfl, rfl, rfl, (fun _ h => nomatch h)⟩, rfl, by decide, by decide, rfl⟩

theorem witness_BadMeasurementFrameIsDiscarded :
    (measured 1490 3000 100 60 ++ [false]).length ≠ 288 ∧
      (let bytes := bytesOfBits 36 (List.replicate 288 false)
       crc8 (bytes.take 35) ≠ bytes.getD 35 0) := by decide +kernel

theorem parse_measured : parseMeasurement (measured 1890 3000 100 75) = some (reading 1890 3000 100 75) := by
  decide +kernel

theorem witness_GoodFrameMovesLoads :
    serving.acts ∧ parseMeasurement (measured 1890 3000 100 75) = some (reading 1890 3000 100 75) ∧
      serving.nc.setting = some image ∧ serving.configured = true ∧ serving.nc.restart ≠ .inProgress :=
  ⟨rfl, parse_measured, rfl, rfl, by decide⟩

/-- R31's other case: in Unconfigured, before the first state, and during a soft restart. -/
theorem witness_GoodFrameMovesLoads_elsewhere :
    (inState .unconfigured).acts ∧ (inState .unconfigured).configured = false ∧
      starting.acts ∧ starting.configured = false ∧ starting.nc.setting = none ∧
      restarting.acts ∧ restarting.nc.restart = .inProgress ∧ starting.mi.sampleTimer = .stopped ∧
      (inState .unconfigured).mi.sampleTimer ≠ .stopped := by
  unfold State.acts
  decide

/-- Section 2.7's frame raises THM with 75 over the limit 70; at 100 degrees THX joins it. -/
theorem test_thermal_readings :
    ((after (.measurementFrame (measured 1490 3000 100 75)) serving).fr.log.map fun r => (r.key, r.reading)) =
      [(.plain .thm, some (75, 70))] ∧
      ((after (.measurementFrame (measured 1490 3000 100 100)) serving).fr.log.map fun r => (r.key, r.reading)) =
        [(.plain .thm, some (100, 70)), (.plain .thx, some (100, 100))] := by decide +kernel

/-- Derating begins at 70 degrees and steps down at 67 from step 1; the mute turns on at 100 and off at 95. -/
theorem witness_GoodFrameDecidesDerating :
    let hot (d : Nat) (mute : Bool) : State := { serving with mi := { serving.mi with derate := d, mute := mute } }
    let ends (b : Byte) (d : Nat) (mute : Bool) (d' : Nat) (mute' : Bool) : Prop :=
      (after (.measurementFrame (measured 1490 3000 100 b)) (hot d mute)).mi.derate = d' ∧
        (after (.measurementFrame (measured 1490 3000 100 b)) (hot d mute)).mi.mute = mute' ∧
        parseMeasurement (measured 1490 3000 100 b) = some (reading 1490 3000 100 b.toInt)
    ends 69 0 false 0 false ∧ ends 70 0 false 1 false ∧ ends 67 1 false 0 false ∧ ends 68 1 false 1 false ∧
      ends 99 8 false 8 false ∧ ends 100 8 false 8 true ∧ ends 96 8 true 8 true ∧ ends 95 8 true 8 false := by
  decide +kernel

/-- The node whose slot 1 and antenna counted one failing test. -/
def counting : State :=
  { serving with pm := { guarded { SlotGuard.reset with filter := 1 } with antFilter := 1 } }

theorem parse_measured_hot : parseMeasurement (measured 1876 5800 1720 60) = some (reading 1876 5800 1720 60) := by
  decide +kernel

/-- The limit of 1875 mW is passed by 1876 and the antenna's 1450 by 1720; the count of 1 meets and misses 2. -/
theorem witness_FilterCountsFollowTests :
    parseMeasurement (measured 1876 5800 1720 60) = some (reading 1876 5800 1720 60) ∧
      (∀ s ∈ [serving, counting], s.acts ∧ s.nc.setting = some image ∧ s.configured = true ∧
        s.nc.restart ≠ .inProgress ∧ s.participates .s1 = true ∧ 20 ≤ (s.ca.slots.get .s1).grant ∧
        (s.pm.slots.get .s1).settle = false ∧ s.pm.antLatch = false ∧ s.pm.antSettle = false) ∧
      1500 * 20 < 1876 * 16 ∧ ¬ 1500 * 20 < 1875 * 16 ∧ 5800 * 4 < 1720 * 16 ∧
      (serving.pm.slots.get .s1).filter + 1 < image.tripFilter ∧
      image.tripFilter ≤ (counting.pm.slots.get .s1).filter + 1 ∧ serving.pm.antFilter + 1 < image.tripFilter ∧
      image.tripFilter ≤ counting.pm.antFilter + 1 :=
  ⟨parse_measured_hot, by unfold State.acts; decide, by decide⟩

/-- The node whose settle flags are set, with a budget that an unchanged derate step keeps. -/
def settlingLevels : State :=
  { serving with pm := { guarded { SlotGuard.reset with settle := true } with antSettle := true } }

/-- Settle flags set on arrival, an unchanged derate step and a changed one; and a node with no image. -/
theorem witness_FilterCountsFollowTests_settle :
    settlingLevels.acts ∧ (settlingLevels.pm.slots.get .s1).settle = true ∧ settlingLevels.pm.antSettle = true ∧
      (∀ k ∈ [Slot.s1, .s2, .s3], ¬ settlingLevels.overDriven image (reading 1890 3000 100 75) k) ∧
      (let t (b : Byte) := after (.measurementFrame (measured 1490 3000 100 b)) settlingLevels
       (t 60).mi.derate = settlingLevels.mi.derate ∧ (t 60).pm.antSettle = false ∧
         (t 75).mi.derate ≠ settlingLevels.mi.derate ∧ (t 100).pm.antSettle = true) ∧
      starting.acts ∧ starting.nc.setting = none := by
  unfold State.acts State.overDriven
  decide +kernel

/-- Retries left and none left, with fill 0 and with fill 1. -/
theorem witness_OverDrivenSlotTrips :
    let s (retry fill : Nat) : State :=
      { withSlot1 { slotUp 3 40 1500 1000 2000 with fill := fill } with
        pm := guarded { SlotGuard.reset with filter := 1, retry := retry } }
    (∀ retry ∈ [1, 2], ∀ fill ∈ [0, 1], (s retry fill).acts ∧ (s retry fill).nc.setting = some image ∧
      (s retry fill).overDriven image (reading 1876 5800 1720 60) .s1) ∧
      parseMeasurement (measured 1876 5800 1720 60) = some (reading 1876 5800 1720 60) ∧
      (s 1 0).fr.log.length ≤ 20 ∧ (s 1 0).fr.isActive (.ofSlot .ovd .s1) = false ∧
      (s 2 0).fr.isActive (.ofSlot .ovl .s1) = false ∧ ((s 1 0).ca.slots.get .s1).lastSent ≠ 0 ∧
      1 < image.maxRetries ∧ image.maxRetries ≤ 2 ∧ ∀ j : Slot, ¬ j.number < Slot.s1.number :=
  ⟨by unfold State.acts State.overDriven; decide, parse_measured_hot, by decide, by decide, by decide,
    by decide, by decide, by decide, by intro j; cases j <;> decide⟩

theorem witness_AntennaLatchWithdrawsNode :
    counting.acts ∧ parseMeasurement (measured 1876 5800 1720 60) = some (reading 1876 5800 1720 60) ∧
      counting.nc.setting = some image ∧ counting.antennaTested (reading 1876 5800 1720 60) = true ∧
      5800 * image.returnLimit < 1720 * 16 ∧ image.tripFilter ≤ counting.pm.antFilter + 1 ∧
      counting.fr.isActive (.plain .ant) = false ∧ counting.fr.log.length ≤ 20 ∧ counting.onAir = true ∧
      counting.lc.mode = .normal ∧ ∀ b ∈ counting.lc.lastBreak, b + 10000 ≤ counting.now :=
  ⟨rfl, parse_measured_hot, by decide⟩

/-- The node whose slot 1 was tripped, with its hold-off timer, and its clean-run timer for slot 2. -/
def tripped : State :=
  { withSlot1 (slotOff .tripped) with
    pm :=
      { serving.pm with
        slots :=
          { serving.pm.slots with
            a1 := { SlotGuard.reset with holdOff := .running 100500 }
            a2 := { SlotGuard.reset with retry := 1, cleanRun := .running 110000 } } } }

theorem witness_SampleAndCleanRunTimersExpire :
    (serving.acts ∧ serving.mi.sampleTimer = .running 102000 ∧ serving.fr.log.length < 32) ∧
      (∀ due, starting.mi.sampleTimer ≠ .running due) ∧
      tripped.acts ∧ (tripped.pm.slots.get .s2).cleanRun = .running 110000 :=
  ⟨⟨rfl, rfl, by decide⟩, (fun _ h => nomatch h), rfl, rfl⟩

theorem witness_LevelFrameSentStartsOldest :
    (troubled.acts ∧ troubled.ca.levelQueue = ⟨.s1, 1190⟩ :: []) ∧ serving.ca.levelQueue = [] :=
  ⟨⟨rfl, rfl⟩, rfl⟩

theorem witness_HoldOffExpiryReleasesSlot :
    tripped.acts ∧ (tripped.pm.slots.get .s1).holdOff = .running 100500 := ⟨rfl, rfl⟩

theorem witness_RoundTimerExpiryBeginsRound :
    serving.acts ∧ serving.su.roundTimer = .running 105000 ∧ serving.nc.setting = some image := ⟨rfl, rfl, rfl⟩

/-- A reading of section 7's neighbours. -/
def reading7 (iso : Bool) : Reading :=
  { slots := ⟨none, none, none, none, none, none⟩
    entries := neighbours7.map fun e => ⟨e.address, e.age, e.reported, e.slots⟩
    iso := iso
    params := ⟨10, 8, 4, 120, 80, 300⟩ }

/-- A slot as a round reads it. -/
def readSlot (operator sector load bias fill : Nat) (stale : Bool) (trip : TripState) : ReadSlot :=
  ⟨operator, sector, load, stale, trip, bias, fill⟩

/-- Each case of R120 with a slot that falls in it; for slot 2 node 14 makes the demand. -/
theorem witness_RoundDecidesByCase :
    decideSlot (reading7 false) (readSlot 5 9 470 0 1 false .latched) = ⟨0, 0⟩ ∧
      decideSlot (reading7 true) (readSlot 7 41 560 0 2 false .clear) = ⟨0, 1⟩ ∧
      decideSlot (reading7 false) (readSlot 7 41 560 0 2 false .clear) = ⟨0, 3⟩ ∧
      decideSlot (reading7 false) (readSlot 9 17 430 0 2 true .clear) = ⟨0, 1⟩ ∧
      decideSlot (reading7 false) (readSlot 9 17 430 3 0 true .clear) = ⟨2, 0⟩ ∧
      decideSlot (reading7 false) (readSlot 3 40 780 2 0 false .clear) = ⟨3, 0⟩ := by decide

/-- A slot with one partner at load 500: the hold band of section 7's second example at its edges. -/
theorem witness_PartnerComparisonSetsBias :
    let g : Reading := { reading7 false with entries := [⟨8, .present, .serving, [nbSlot 3 44 500]⟩] }
    (∀ e ∈ g.entries, (e.slots.map NbSlot.operator).Nodup) ∧
      compareBias g (readSlot 3 40 621 2 0 false .clear) = 3 ∧ compareBias g (readSlot 3 40 620 2 0 false .clear) = 2 ∧
      compareBias g (readSlot 3 40 420 2 0 false .clear) = 2 ∧ compareBias g (readSlot 3 40 419 2 0 false .clear) = 1 ∧
      compareBias g (readSlot 3 40 299 2 0 false .clear) = 1 ∧ compareBias g (readSlot 9 40 300 2 0 false .clear) = 1 ∧
      compareBias { g with entries := [⟨8, .present, .serving, [{ nbSlot 3 44 500 with full := true }]⟩] }
        (readSlot 3 40 300 2 0 false .clear) = 2 := by decide

/-- A round in flight that decided slot 1 and slot 2. -/
def inRound : State :=
  { tripped with
    su :=
      { roundTimer := .running 115000
        round :=
          some
            { reading := reading7 false, decided := ⟨some ⟨3, 0⟩, some ⟨0, 3⟩, none, none, none, none⟩ } } }

/-- R118: the tripped slot 1 is written 0 and 0, slot 2 takes what was decided. -/
theorem test_round_commit :
    let t := after .roundCommit inRound
    (t.ca.slots.a1.bias, t.ca.slots.a1.fill) = (0, 0) ∧ (t.ca.slots.a2.bias, t.ca.slots.a2.fill) = (0, 3) ∧
      t.su.round = none := by decide +kernel

theorem witness_RoundCommitWritesTrims :
    inRound.acts ∧ inRound.su.round =
      some { reading := reading7 false, decided := ⟨some ⟨3, 0⟩, some ⟨0, 3⟩, none, none, none, none⟩ } ∧
      (inRound.ca.slots.get .s3).enabled = false ∧ (inRound.ca.slots.get .s1).trip ≠ .clear ∧
      (inRound.ca.slots.get .s2).trip = .clear ∧ (inRound.ca.slots.get .s2).enabled = true :=
  ⟨rfl, rfl, rfl, by decide, rfl, rfl⟩

theorem witness_JoinTimerExpiryEntersServing :
    let s := { inState .joining with nc := { (inState .joining).nc with joinTimer := .running 108000 } }
    s.acts ∧ s.nc.joinTimer = .running 108000 ∧ s.nc.setting = some image ∧ s.nc.restart ≠ .inProgress ∧
      s.lc.beaconUnderWay = false :=
  ⟨rfl, rfl, rfl, by decide, rfl⟩

/-- A Present entry, a Stale one, and Silent ones that relate to the node and that do not. -/
theorem witness_NeighbourAgesByItsPeriod :
    let present := entry 14 .present [nbSlot 7 41 500]
    let stale := entry 14 .stale [nbSlot 7 41 500]
    let kin := entry 14 .silent [nbSlot 7 41 500]
    let other := entry 14 .silent [nbSlot 7 42 500]
    (∀ e ∈ [present, stale, kin, other],
      (among [e]).acts ∧ (among [e]).nt.find? (fun x => x.address == 14) = some e) ∧
      present.age = .present ∧ stale.age ≠ .present ∧ stale.age ≠ .silent ∧ kin.age = .silent ∧
      kin.goneFallen = false ∧ other.goneFallen = false ∧ (among [kin]).relates kin = true ∧
      (among [other]).relates other = false ∧ { kin with goneFallen := true }.goneFallen = true := by
  unfold State.acts
  decide

/-- R107: a Gone deadline on a Stale entry, and on a Silent one whose deadline fell before, changes nothing. -/
theorem test_gone_deadline_elsewhere :
    ∀ e ∈ [entry 14 .stale [nbSlot 7 12 500], { entry 14 .silent [nbSlot 7 41 500] with goneFallen := true }],
      after (.goneDeadline 14) (among [e]) = among [e] := by decide

/-- Sixteen entries, of which the third and the fifth share no operator with the node; the fifth was heard first. -/
def fullTable : List Entry :=
  [entry 1 .present [nbSlot 3 1 0], entry 2 .present [nbSlot 3 1 0],
    { entry 5 .present [nbSlot 2 1 0] with heard := 92001 },
    entry 4 .present [nbSlot 3 1 0], entry 33 .silent [nbSlot 4 1 0]] ++
    (List.range 11).map fun i => entry (i + 40) .present [nbSlot 7 1 0]

/-- A beacon that is not accepted, one held by a round, one that updates, one that creates, and a full table with and
without an entry to replace. -/
theorem witness_BeaconUpdatesNeighbourTable :
    (1 ≤ beacon14.source ∧ beacon14.source ≤ 60 ∧ beacon14.source ≠ serving.nc.strap.toNat ∧ beacon14.dest = 0 ∧
      2 ≤ beacon14.payload.length ∧ byteAt beacon14.payload 1 % 8 ≤ 6 ∧
      beacon14.payload.length = 4 + 4 * (byteAt beacon14.payload 1 % 8)) ∧
      ({ beacon14 with source := 21 } : Frame).source = serving.nc.strap.toNat ∧
      (hearing [beacon14]).lc.rxQueue = beacon14 :: [] ∧ beacon14.kind = 1 ∧ inRound.su.round.isSome = true ∧
      serving.su.round = none ∧ serving.cu.current = none ∧ serving.nc.restart ≠ .inProgress ∧
      neighbours7.find? (fun x => x.address == 14) = some (entry 14 .silent [nbSlot 7 41 500]) ∧
      fullTable.length = 16 ∧ (∀ e ∈ fullTable, e.address ≠ beacon14.source) ∧
      (∃ e ∈ fullTable, (among fullTable).shares e = false) ∧
      ∀ e ∈ fullTable.map (fun e => { e with slots := [nbSlot 7 1 0] }), (among fullTable).shares e = true := by
  decide

theorem good_beacon14 : decodeFrame (lineOf beacon14) = .good beacon14 false := by decide +kernel

/-- A queue with room for the frame and one without. -/
theorem witness_GoodPeerFrameIsTaken :
    serving.receives ∧ serving.lc.idleNeed ≤ 12 ∧ decodeFrame (lineOf beacon14) = .good beacon14 false ∧
      serving.seesTwin beacon14 = false ∧
      serving.isFor beacon14 ∧ serving.lc.rxQueue.length < 4 ∧
      (hearing (List.replicate 4 beacon14)).receives ∧ 4 ≤ (hearing (List.replicate 4 beacon14)).lc.rxQueue.length ∧
      (∀ r ∈ (hearing (List.replicate 4 beacon14)).fr.log, r.acked = true → r.active = true) ∧
      (hearing (List.replicate 4 beacon14)).fr.isActive (.plain .rxo) = false ∧ serving.fr.log.length < 31 :=
  ⟨by unfold State.receives State.acts; decide, by decide, good_beacon14, by decide, .inl rfl, by decide,
    by unfold State.receives State.acts; decide, by decide, by decide, by decide, by decide⟩

/-- The node in the rest of a frame in which it met a bit error in its own beacon. -/
def inRest : State :=
  withLine fun lc => { lc with txQueue := [.marker false], phase := .errored (sendingBeacon false) true .unsent }

/-- The node in the rest of a beacon that it sent to the end of its check field. -/
def inRestSent : State :=
  withLine fun lc => { lc with txQueue := [.marker false], phase := .errored stuffedEnd true .sent }

/-- A line that ends early, a stuffing error, and a break inside a frame; a start bit at 11 recessive bit times, one
before idle; and the rest of an errored frame. -/
theorem witness_BadPeerFrameIsNotTaken :
    (serving.receives ∧ serving.lc.idleNeed ≤ 12 ∧ decodeFrame ((lineOf beacon14).take 20) = .unfinished ∧
      decodeFrame (List.replicate 15 (clean false) ++ [clean true]) = .bad ∧
      decodeFrame (List.replicate 16 (clean false)) = .cut) ∧
      (11 < serving.lc.idleNeed ∧ (clean false).majority = false) ∧
      inRest.hears ∧ inRest.lc.phase = .errored (sendingBeacon false) true .unsent ∧
      inRest.seesTwin beacon14 = false ∧ decodeFrame (lineOf beacon14) = .good beacon14 false ∧
      inRestSent.hears ∧ inRestSent.lc.phase = .errored stuffedEnd true .sent :=
  ⟨⟨by unfold State.receives State.acts; decide, by decide, by decide +kernel, by decide +kernel, by decide +kernel⟩,
    by decide, by unfold State.hears State.acts; decide, rfl, by decide, good_beacon14,
    by unfold State.hears State.acts; decide, rfl⟩

/-- R69: the frame in which the node met its error has no outcome, and its hold bit sets the gap. -/
theorem test_rest_of_errored_frame :
    let t := after (.peerFrameReceived ⟨0, lineOf beacon14⟩ true) inRest
    t.lc.rxQueue = [] ∧ t.lc.window = [] ∧ t.lc.idleNeed = 40 := by decide +kernel

/-- R73: the node's own good frame, met with an error in the stuff bit after its check field, is no twin. -/
theorem test_own_frame_is_no_twin :
    let t := after (.peerFrameReceived ⟨0, lineOf stuffedEnd.frame⟩ false) inRestSent
    t.fr.isActive (.plain .dup) = false ∧ t.lc.mode = .normal ∧
      (after (.peerFrameReceived ⟨0, lineOf stuffedEnd.frame⟩ false) inRest).fr.isActive (.plain .dup) = true := by
  decide +kernel

/-- The node with outcomes of the frames before in its window. -/
def heard (window : List LineOutcome) : State := withLine fun lc => { lc with window := window }

/-- The windows after a good and after a bad frame with 1, 2, 3 and 4 damaged outcomes in them. -/
theorem witness_GoodPeerFrameIsTaken_LNQ :
    let damaged (line : List Sample) (window : List LineOutcome) : Nat :=
      ((after (.peerFrameReceived ⟨12, line⟩ false) (heard window)).lc.window.filter fun o => o != .good).length
    let bad := List.replicate 15 (clean false) ++ [clean true]
    (∀ n ∈ [1, 2, 3, 4], (heard (List.replicate n LineOutcome.noisy)).receives ∧
      damaged (lineOf beacon14) (List.replicate n LineOutcome.noisy) = n ∧ damaged bad (List.replicate (n - 1) LineOutcome.bad) = n) := by
  unfold State.receives State.acts
  decide +kernel

/-- A frame that bears the node's own address. -/
def twin : Frame := { beacon14 with source := 21 }

theorem witness_OwnAddressHeardStopsSending :
    (∀ mode ∈ [LineMode.normal, .probing, .listenOnly], (withLine fun lc => { lc with mode := mode }).hears ∧
      (withLine fun lc => { lc with mode := mode }).lc.idleNeed ≤ 12 ∧
      (withLine fun lc => { lc with mode := mode }).lc.inOwnErroredFrame = false) ∧
      inRest.hears ∧ inRest.lc.inOwnErroredFrame = true ∧ inRest.lc.phase ≠ .errored (sendingBeacon false) true .sent ∧
      decodeFrame (lineOf twin) = .good twin false ∧
      twin.source = serving.nc.strap.toNat ∧ 1 ≤ twin.source ∧ twin.source ≤ 60 :=
  ⟨by unfold State.hears State.acts; decide, by unfold State.hears State.acts; decide, rfl, by decide,
    by decide +kernel, by decide⟩

/-- The node whose RESTART reply waits in the Transmit Queue, or still in the Command Unit, for a pending restart. -/
def awaitingRestart (queued : Bool) : State :=
  { serving with
    nc := { serving.nc with restart := .pending }
    lc := { serving.lc with txQueue := if queued then [.reply 61 [7, 5, 0] true] else [] }
    cu :=
      { current := if queued then none else some ⟨command [5, 7], ⟨61, [7, 5, 0], true, none⟩⟩, stream := none } }

theorem witness_OwnAddressHeardStopsSending_restart :
    (∀ queued ∈ [false, true], (awaitingRestart queued).hears ∧ (awaitingRestart queued).lc.mode ≠ .listenOnly ∧
      (awaitingRestart queued).nc.restart = .pending) ∧
      (∃ dest payload, .reply dest payload true ∈ (awaitingRestart true).lc.txQueue) ∧
      (∃ c, (awaitingRestart false).cu.current = some c ∧ c.reply.restart = true) ∧
      serving.nc.restart ≠ .pending :=
  ⟨by unfold State.hears State.acts; decide, ⟨61, [7, 5, 0], List.mem_singleton.mpr rfl⟩, ⟨_, rfl, rfl⟩, by decide⟩

/-- R71 and R165: the restart is due once the entry to Listen-only drops the reply it waits for. -/
theorem test_dropped_restart_reply :
    let t := after (.peerFrameReceived ⟨12, lineOf twin⟩ false) (awaitingRestart true)
    t.lc.mode = .listenOnly ∧ t.nc.restartDue = true ∧ ∀ e ∈ t.lc.txQueue, e.kind = .beacon := by decide +kernel

/-- Idle at 12 recessive bit times and not at 11, with a break, an entry or nothing to send, in each mode. -/
theorem witness_IdleLineStartsChosenEntry :
    serving.acts ∧ serving.lc.inUse = true ∧ serving.lc.phase = .quiet ∧ serving.lc.breakRun = false ∧
      serving.lc.idleNeed ≤ 12 ∧ ¬ serving.lc.idleNeed ≤ 11 ∧ serving.lc.pendingBreak = false ∧
      serving.lc.mode = .normal ∧ serving.lc.txQueue = [] ∧
      troubled.lc.txQueue = .marker true :: [.reply 61 [7, 1, 0] false] ∧
      troubled.lc.txQueue.find? (fun x => x.kind == .beacon) = some (.marker true) ∧
      (withLine fun lc => { lc with pendingBreak := true }).lc.pendingBreak = true := by
  refine ⟨rfl, ?_⟩
  decide

/-- The node while it sends a beacon, as probe or not. -/
def sendingNow (probe : Bool) : State :=
  { troubled with
    lc :=
      { troubled.lc with
        phase := .sending (sendingBeacon probe), mode := if probe then .probing else .normal,
        txQueue := if probe then [.marker true] else troubled.lc.txQueue } }

theorem witness_ReadBackEndsSending_lost :
    (sendingNow false).acts ∧ (sendingNow false).lc.phase = .sending (sendingBeacon false) ∧
      (wireBits (sendingBeacon false).frame)[1]? = some ⟨true, .arbitration⟩ ∧
      (clean false).majority = false ∧ (sendingNow false).lc.followUp = false :=
  ⟨rfl, rfl, by decide +kernel, rfl, rfl⟩

/-- A bit error in the body and one in the first of the nine end bits. -/
theorem witness_ReadBackEndsSending_error :
    (sendingNow false).acts ∧ (sendingNow false).lc.phase = .sending (sendingBeacon false) ∧
      ((wireBits (sendingBeacon false).frame)[20]?.map WireBit.role) = some .body ∧
      ((wireBits (sendingBeacon false).frame).reverse[8]?) = some ⟨true, .ending⟩ ∧
      (true : Bool) ≠ (clean false).majority ∧ (sendingBeacon false).owner = .beacon :=
  ⟨rfl, rfl, by decide +kernel, by decide +kernel, by decide, rfl⟩

/-- A beacon, a probe, the reply that a restart waits for, and a stream frame, heard or not. -/
theorem witness_CleanFrameEndsAttempt :
    (∀ probe ∈ [false, true], (sendingNow probe).acts ∧
      (sendingNow probe).lc.phase = .sending (sendingBeacon probe)) ∧
      (sendingBeacon true).owner = .beacon ∧ (sendingNow true).lc.mode = .probing ∧
      (sendingNow false).lc.followUp = false ∧
      ({ (sendingNow false).lc with followUp := true } : Line).followUp = true ∧
      troubled.lc.txQueue.find? (fun e => e.kind == .reply) = some (.reply 61 [7, 1, 0] false) ∧
      [TxEntry.stream 61 [7, 96, 4] true].find? (fun e => e.kind == .stream) = some (.stream 61 [7, 96, 4] true) := by
  unfold State.acts
  decide

/-- The node while it sends the RESTART reply that the pending restart waits for. -/
def sendingRestartReply : State :=
  { serving with
    nc := { serving.nc with restart := .pending }
    lc :=
      { serving.lc with
        txQueue := [.reply 61 [7, 5, 0] true], phase := .sending ⟨.reply, ⟨1, 21, 3, 61, [7, 5, 0]⟩, false⟩ } }

theorem witness_CleanFrameEndsAttempt_restart :
    sendingRestartReply.acts ∧
      sendingRestartReply.lc.phase = .sending ⟨.reply, ⟨1, 21, 3, 61, [7, 5, 0]⟩, false⟩ ∧
      sendingRestartReply.lc.txQueue.find? (fun e => e.kind == .reply) = some (.reply 61 [7, 5, 0] true) ∧
      sendingRestartReply.nc.restart = .pending := ⟨rfl, rfl, rfl, rfl⟩

/-- R165: the restart is due when the reply has left. -/
theorem test_restart_reply_leaves :
    (after (.transmitFrameEnd true false) sendingRestartReply).nc.restartDue = true := by decide +kernel

/-- R91: a cause during the beacon sets a new marker at priority 0 when the beacon has left. -/
theorem test_follow_up_sets_marker :
    (after (.transmitFrameEnd true false)
      (withLine fun lc =>
        { lc with
          txQueue := [.marker false], phase := .sending (sendingBeacon false), followUp := true })).lc.txQueue =
      [.marker true] := by decide +kernel

/-- The node that waits to settle a bit error, one below the limit and at it. -/
def settling (probe : Bool) (errors : Nat) : State :=
  { sendingNow probe with
    lc := { (sendingNow probe).lc with phase := .errored (sendingBeacon probe) true .unsent, txErrors := errors } }

theorem witness_BitErrorIsSettledAtIdle :
    (∀ errors ∈ [6, 7, 8], ∀ probe ∈ [false, true], (settling probe errors).acts ∧
      (settling probe errors).lc.phase = .errored (sendingBeacon probe) true .unsent ∧
      (settling probe errors).lc.breakRun = false ∧ (settling probe errors).lc.idleNeed ≤ 12) ∧
      (settling false 6).lc.breakSeen = false ∧ (settling false 6).lc.mode = .normal ∧ min 8 (6 + 1) < 8 ∧
      min 8 (7 + 1) = 8 ∧ (sendingBeacon true).probe = true ∧ (settling true 6).lc.mode = .probing := by
  unfold State.acts
  decide

/-- The node that waits to settle a bit error in the RESTART reply that the pending restart waits for, and in a stream
frame after one unheard frame; before idle at 11 recessive bit times; and one that the break kept. -/
theorem witness_BitErrorIsSettledAtIdle_owners :
    let reply : State :=
      { sendingRestartReply with
        lc :=
          { sendingRestartReply.lc with
            phase := .errored ⟨.reply, ⟨1, 21, 3, 61, [7, 5, 0]⟩, false⟩ true .over } }
    let stream : State :=
      { serving with
        lc :=
          { serving.lc with
            txQueue := [.stream 61 [7, 96, 4] false],
            phase := .errored ⟨.stream, ⟨2, 21, 4, 61, [7, 96, 4]⟩, false⟩ true .over }
        cu := { current := none, stream := some ⟨61, 7, 3, 5, 6, 1, false⟩ } }
    (reply.acts ∧ reply.lc.txQueue.find? (fun e => e.kind == .reply) = some (.reply 61 [7, 5, 0] true) ∧
      reply.nc.restart = .pending ∧ reply.lc.idleNeed ≤ 12 ∧ 11 < reply.lc.idleNeed) ∧
      (stream.acts ∧
        stream.lc.txQueue.find? (fun e => e.kind == .stream) = some (.stream 61 [7, 96, 4] false) ∧
        stream.cu.stream = some ⟨61, 7, 3, 5, 6, 1, false⟩) ∧
      (∃ dest payload, .reply dest payload true ∈ reply.lc.txQueue) ∧
      ({ (settling false 6).lc with breakSeen := true, followUp := true } : Line).breakSeen = true :=
  ⟨⟨rfl, rfl, rfl, by decide, by decide⟩, ⟨rfl, rfl, rfl⟩, ⟨61, [7, 5, 0], List.mem_singleton.mpr rfl⟩, rfl⟩

theorem witness_BreakSetsMarkerAndGap :
    serving.acts ∧ serving.lc.inUse = true ∧ serving.lc.breakRun = false ∧
      (after .breakDetected serving).acts ∧ (after .breakDetected serving).lc.breakRun = true := by
  unfold State.acts
  decide

theorem witness_TimersSetPeriodicMarker :
    serving.acts ∧ serving.lc.beaconTimer = .running 101000 ∧ serving.lc.beaconPeriod = some 4 ∧
      silenced.acts ∧ silenced.lc.coolTimer = .running 120000 := ⟨rfl, rfl, rfl, rfl, rfl⟩

theorem witness_OtherFramesAreDropped :
    serving.acts ∧ (hearing [{ beacon14 with kind := 3 }]).lc.rxQueue = { beacon14 with kind := 3 } :: [] ∧
      serving.cu.current = none ∧ serving.nc.restart ≠ .inProgress ∧ beacon14.kind = 1 :=
  ⟨rfl, rfl, rfl, by decide, rfl⟩

/-- Commands that are not the node's, of its own address, of a zone node, of an unknown code, and one of the six. -/
theorem witness_HandoverDecidesCommand :
    (∀ f ∈ [{ command [1, 7] with dest := 0 }, command [1], { command [1, 7] with source := 0 },
        { command [1, 7] with source := 60 }, command [0, 7], command [7, 7], command [1, 7], command [6, 7]],
      (hearing [f]).acts ∧ (hearing [f]).lc.rxQueue = f :: [] ∧ f.kind = 2 ∧ (hearing [f]).cu.current = none ∧
        (hearing [f]).nc.restart ≠ .inProgress) ∧
      (command [1, 7]).dest = serving.nc.strap.toNat ∧ (command [1, 7]).dest ≠ 0 ∧ 61 ≤ (command [1, 7]).source := by
  unfold State.acts
  decide

theorem witness_IdentifyReportsNode :
    (hearing [command [1, 7]]).commandAtHead (command [1, 7]) [] 1 ∧
      (hearing [command [1, 7]]).nc.state = some .serving := by
  unfold State.commandAtHead State.acts
  decide

theorem witness_AckFaultsCoversRecords :
    (hearing [command [2, 7, 0, 2]]).commandAtHead (command [2, 7, 0, 2]) [] 2 ∧
      4 ≤ (command [2, 7, 0, 2]).payload.length ∧
      (hearing [command [2, 7, 0]]).commandAtHead (command [2, 7, 0]) [] 2 ∧
      (command [2, 7, 0]).payload.length < 4 := by
  unfold State.commandAtHead State.acts
  decide

/-- A command in the Receive Queue of the node in some state. -/
def commanded (n : NodeState) (f : Frame) : State := { inState n with lc := (hearing [f]).lc }

/-- Too short, target 8, and Unconfigured. -/
theorem witness_ClearTripClearsTarget_turned_away :
    (commanded .serving (command [3, 7])).commandAtHead (command [3, 7]) [] 3 ∧
      (command [3, 7]).payload.length < 3 ∧
      (commanded .serving (command [3, 7, 8])).commandAtHead (command [3, 7, 8]) [] 3 ∧
      7 < byteAt (command [3, 7, 8]).payload 2 ∧
      (commanded .unconfigured (command [3, 7, 7])).commandAtHead (command [3, 7, 7]) [] 3 ∧
      (commanded .unconfigured (command [3, 7, 7])).configured = false := by
  refine ⟨?_, ?_, ?_, ?_, ?_, ?_⟩ <;> (try unfold State.commandAtHead State.acts) <;> decide

/-- Each of the targets 0, 1, 6 and 7. -/
theorem witness_ClearTripClearsTarget :
    ∀ p ∈ ([[3, 7, 0], [3, 7, 1], [3, 7, 6], [3, 7, 7]] : List (List Byte)),
      (commanded .serving (command p)).commandAtHead (command p) [] 3 ∧ 3 ≤ p.length ∧ byteAt p 2 ≤ 7 ∧
        (commanded .serving (command p)).configured = true := by
  unfold State.commandAtHead State.acts
  decide

theorem witness_RestoreReturnsToJoining :
    (∀ n ∈ [NodeState.withdrawn, .unconfigured, .joining, .serving],
      (commanded n (command [4, 7])).commandAtHead (command [4, 7]) [] 4 ∧
        (inState n).nc.state = some n) ∧
      (inState .withdrawn).nc.setting = some image ∧
      (∃ r ∈ (withLog [record 1 (.plain .cfg) true true] true).fr.log,
        r.active = true ∧ r.key.kind.faultClass = .severe) ∧
      ¬ ∃ r ∈ (inState .withdrawn).fr.log, r.active = true ∧ r.key.kind.faultClass = .severe := by
  unfold State.commandAtHead State.acts
  decide

/-- A RESTART command to a strap address. -/
def restartAt (a : Nat) : Frame := { command [5, 7] with source := 63, dest := a }

/-- The node with a strap address, and its RESTART command. -/
def strapped (a : Nat) (restart : Restart) : State :=
  { hearing [restartAt a] with nc := { serving.nc with strap := BitVec.ofNat 6 a, restart := restart } }

/-- Strap addresses 1 and 60 restart and 61 does not; and once more while a restart is pending. -/
theorem witness_RestartBecomesPending :
    (∀ a ∈ [1, 60, 61], (strapped a .none).commandAtHead (restartAt a) [] 5 ∧ (strapped a .none).nc.restart = .none ∧
      (strapped a .none).nc.strap.toNat = a) ∧
      (strapped 1 .pending).commandAtHead (restartAt 1) [] 5 ∧ (strapped 1 .pending).nc.restart = .pending := by
  unfold State.commandAtHead State.acts
  decide

/-- Bad arguments, a stream running, no record to follow, and at least one. -/
theorem witness_DumpAnnouncesRecords :
    (∀ p ∈ [[6, 7, 1, 0], [6, 7, 0, 0, 1], [6, 7, 5, 0, 1], [6, 7, 1, 0, 1], [6, 7, 3, 6, 1], [6, 7, 4, 6, 0],
        [6, 7, 3, 5, 255]], (hearing [command p]).commandAtHead (command p) [] 6) ∧
      serving.cu.stream = none ∧ min 1 (serving.fr.log.length - 0) = 0 ∧ min 1 (6 - 6) = 0 ∧ 0 < min 32 (6 - 5) := by
  unfold State.commandAtHead State.acts
  decide

/-- The node with an executed command whose reply waits, and with a stream running. -/
def replying : State :=
  { troubled with
    cu :=
      { current :=
          some
            { command := command [6, 7, 3, 4, 2]
              reply := { dest := 61, payload := [7, 6, 0, 2], restart := false, stream := none } }
        stream := none } }

theorem witness_ReplyEntersQueue :
    replying.acts ∧ replying.cu.current ≠ none ∧
      replying.lc.txQueue.Pairwise (fun a b => a.priority ≤ b.priority) ∧ replying.lc.mode ≠ .listenOnly ∧
      (replying.lc.txQueue.filter fun e => e.kind != .beacon).length < 3 ∧ replying.nc.restartDue = false ∧
      replying.nc.restart ≠ .inProgress := by
  unfold State.acts
  decide

/-- A stream of table 3 at its last record, and one past the end of table 1. -/
def streaming (table next stop : Nat) : State :=
  { troubled with
    cu :=
      { current := none
        stream :=
          some
            { requester := 61, tag := 7, table := table, next := next, stop := stop, unheard := 0,
              final := false } } }

theorem witness_StreamFrameCarriesNextRecord :
    (streaming 3 5 6).acts ∧ (streaming 3 5 6).cu.stream ≠ none ∧ (streaming 3 5 6).lc.mode ≠ .listenOnly ∧
      ((streaming 3 5 6).lc.txQueue.filter fun e => e.kind != .beacon).length < 3 ∧
      (streaming 3 5 6).cu.current = none ∧ (streaming 3 5 6).nc.restartDue = false ∧
      (streaming 3 5 6).nc.restart ≠ .inProgress ∧ (∀ e ∈ (streaming 3 5 6).lc.txQueue, e.kind ≠ .stream) ∧
      ((streaming 3 5 6).streamRecord 3 5).isSome = true ∧ (streaming 1 1 2).streamRecord 1 1 = none := by
  unfold State.acts
  decide

/-- A record, an entry, a slot and a setting that a stream lays out. -/
theorem witness_StreamFrameCarriesNextRecord_layouts :
    troubled.fr.log[0]? = some (record 1 (.plain .smp) true false) ∧ (record 1 (.plain .smp) true false).sound ∧
      troubled.nt[0]? = some (entry 14 .stale [nbSlot 7 12 500]) ∧
      (entry 14 .stale [nbSlot 7 12 500]).sound troubled.nc.strap.toNat ∧ (troubled.ca.slots.get .s1).fits ∧
      troubled.ca.budget < 65536 ∧ troubled.nc.setting = some image ∧ image.fits := by
  refine ⟨rfl, by unfold Record.sound; decide, rfl, by unfold Entry.sound; decide, by unfold SlotRecord.fits; decide,
    by decide, rfl, ?_⟩
  unfold Setting.fits
  refine ⟨?_, ?_, ?_, ?_, ?_, ?_, ?_, ?_, ?_, ?_, ?_, ?_, ?_, ?_, ?_, ?_, ?_, ?_, ?_, ?_, fun k => by
    cases k <;> decide⟩ <;> decide

/-- R181: an OVD record of slot 3, acknowledged, at 1890 over 1875 mW, raised at 70000 s: 19 bytes. -/
theorem test_streamed_record :
    recordBytes
      { seq := 258, key := .ofSlot .ovd .s3, reading := some (1890, 1875), raised := 70000, cleared := none,
        repeats := 2, active := true, acked := true } =
      [1, 2, 6, 0x78, 3, 0, 0x07, 0x62, 0x07, 0x53, 0, 1, 0x11, 0x70, 0, 0, 0, 0, 2] := by decide +kernel

end Sys2Proof.Tests
end

section
/-! SUPPORT. The allocation pass: how the budget is divided (R11 to R15), what a pass leaves in the Carriage Table, the
Protection Monitor and the Fault Log (R14, R18, R52), and the level frames that it hands over (R16, R17). -/

namespace Sys2Proof

theorem Six.sum_eq (v : Six Nat) : v.sum = (Slot.all.map v.get).sum := by
  simp only [Slot.all, List.map_cons, List.map_nil, List.sum_cons, List.sum_nil]
  simp only [Six.sum, Six.get]
  omega

theorem Six.sum_slots (v : Six Nat) :
    v.sum = v.get .s1 + v.get .s2 + v.get .s3 + v.get .s4 + v.get .s5 + v.get .s6 := rfl

theorem Six.sum_tabulate (f : Slot → Nat) : (Six.tabulate f).sum = (Slot.all.map f).sum := Six.sum_eq _

theorem Six.sum_le_sum {v w : Six Nat} (h : ∀ k, v.get k ≤ w.get k) : v.sum ≤ w.sum := by
  rw [Six.sum_eq, Six.sum_eq]
  exact List.sum_le_sum fun k _ => h k

theorem Slot.all_nodup : Slot.all.Nodup := by decide

namespace Machine

/-! ## Proportional parts -/

/-- The truncated parts of an amount, in proportion to some figures, make at most the whole (R15). -/
theorem parts_sum_le (v : Slot → Nat) (x total : Nat) (l : List Slot) :
    total * (l.map fun k => v k * x / total).sum ≤ (l.map v).sum * x := by
  induction l with
  | nil => simp
  | cons k rest ih =>
    have part : total * (v k * x / total) ≤ v k * x := Nat.mul_div_le _ _
    simp only [List.map_cons, List.sum_cons, Nat.mul_add, Nat.add_mul]
    omega

/-- A truncated part loses less than one unit, and a part of nothing loses nothing (R15). -/
theorem part_loses_little {v x total : Nat} (h : 0 < total) : v * x + 1 ≤ total * (v * x / total) + total := by
  have whole : total * (v * x / total) + v * x % total = v * x := Nat.div_add_mod _ _
  have rest : v * x % total < total := Nat.mod_lt _ h
  omega

/-- The truncated parts fall short of the whole by less than one unit for each one that takes part (R15). -/
theorem le_parts_sum (v : Slot → Nat) (x total : Nat) (takes : Slot → Bool) (h : 0 < total)
    (out : ∀ k, takes k = false → v k = 0) (l : List Slot) :
    (l.map v).sum * x + (l.filter takes).length ≤
      total * (l.map fun k => v k * x / total).sum + total * (l.filter takes).length := by
  induction l with
  | nil => simp
  | cons k rest ih =>
    simp only [List.map_cons, List.sum_cons, Nat.mul_add, Nat.add_mul, List.filter_cons]
    cases hk : takes k with
    | false =>
      simp only [out k hk, Nat.zero_mul, Nat.zero_div, Nat.mul_zero, Bool.false_eq_true, if_false]
      omega
    | true =>
      have part := part_loses_little (v := v k) (x := x) h
      simp only [if_true, List.length_cons, Nat.mul_add, Nat.mul_one]
      omega

/-- Where figures do not sum to 0, the parts of an amount exceed it less one unit for each that takes part (R15). -/
theorem lt_parts_sum (v : Slot → Nat) (x : Nat) (takes : Slot → Bool) (h : 0 < (Slot.all.map v).sum)
    (out : ∀ k, takes k = false → v k = 0) :
    x < (Slot.all.map fun k => v k * x / (Slot.all.map v).sum).sum + (Slot.all.filter takes).length := by
  have bound := le_parts_sum v x _ takes h out Slot.all
  have some_takes : 0 < (Slot.all.filter takes).length := by
    rw [List.length_pos_iff]
    intro none_takes
    have zero : ∀ n ∈ Slot.all.map v, n = 0 := by
      intro n hn
      obtain ⟨k, hk, rfl⟩ := List.mem_map.mp hn
      exact out k (by simpa using List.filter_eq_nil_iff.mp none_takes k hk)
    exact absurd (List.sum_eq_zero zero) (by omega)
  refine Nat.lt_of_mul_lt_mul_left (a := (Slot.all.map v).sum) ?_
  rw [Nat.mul_add]
  omega

/-! ## The division of the budget -/

theorem shareOut_caseA {r f : Six Nat} {b : Nat} (h : r.sum ≤ b) : shareOut r f b = r := if_pos h

theorem shareOut_caseB {r f : Six Nat} {b : Nat} (hr : b < r.sum) (hf : f.sum ≤ b) (k : Slot) :
    (shareOut r f b).get k =
      f.get k + (r.get k - f.get k) * (b - f.sum) / (Six.tabulate fun j => r.get j - f.get j).sum := by
  simp [shareOut, Nat.not_le.mpr hr, hf]

theorem shareOut_caseC {r f : Six Nat} {b : Nat} (hr : b < r.sum) (hf : b < f.sum) (k : Slot) :
    (shareOut r f b).get k = f.get k * b / f.sum := by
  simp [shareOut, Nat.not_le.mpr hr, Nat.not_le.mpr hf]

/-- The excesses over the effective floors sum to the excess of the sums (R13). -/
theorem excess_sum {r f : Six Nat} (h : ∀ k, f.get k ≤ r.get k) :
    (Six.tabulate fun j => r.get j - f.get j).sum = r.sum - f.sum := by
  have h1 := h .s1; have h2 := h .s2; have h3 := h .s3; have h4 := h .s4; have h5 := h .s5; have h6 := h .s6
  simp only [Six.sum, Six.tabulate, Six.get] at *
  omega

/-- No grant exceeds its request (R15). -/
theorem shareOut_le_request {r f : Six Nat} (h : ∀ k, f.get k ≤ r.get k) (b : Nat) (k : Slot) :
    (shareOut r f b).get k ≤ r.get k := by
  have hk := h k
  rcases Nat.lt_or_ge b r.sum with hr | hr
  · rcases Nat.lt_or_ge b f.sum with hf | hf
    · rw [shareOut_caseC hr hf]
      have : f.get k * b / f.sum ≤ f.get k :=
        Nat.div_le_of_le_mul (by rw [Nat.mul_comm]; exact Nat.mul_le_mul_right _ hf.le)
      omega
    · rw [shareOut_caseB hr hf, excess_sum h]
      have : (r.get k - f.get k) * (b - f.sum) / (r.sum - f.sum) ≤ r.get k - f.get k :=
        Nat.div_le_of_le_mul (by rw [Nat.mul_comm]; exact Nat.mul_le_mul_right _ (by omega))
      omega
  · rw [shareOut_caseA hr]

/-- The grants of Case B together: the effective floors and the parts of the spare budget (R13). -/
theorem shareOut_sum_caseB {r f : Six Nat} {b : Nat} (hr : b < r.sum) (hf : f.sum ≤ b) :
    (shareOut r f b).sum =
      f.sum + (Slot.all.map fun k => (r.get k - f.get k) * (b - f.sum) /
        (Slot.all.map fun j => r.get j - f.get j).sum).sum := by
  rw [Six.sum_eq, Six.sum_eq f, ← List.sum_map_add]
  congr 2
  funext k
  rw [shareOut_caseB hr hf, Six.sum_tabulate, Six.sum_eq f]

/-- The grants of Case C together (R14). -/
theorem shareOut_sum_caseC {r f : Six Nat} {b : Nat} (hr : b < r.sum) (hf : b < f.sum) :
    (shareOut r f b).sum = (Slot.all.map fun k => f.get k * b / (Slot.all.map f.get).sum).sum := by
  rw [Six.sum_eq, ← Six.sum_eq f]
  congr 2
  funext k
  exact shareOut_caseC hr hf k

/-- The grants together stay within the budget in force (R15). -/
theorem shareOut_sum_le_budget (r f : Six Nat) (b : Nat) : (shareOut r f b).sum ≤ b := by
  rcases Nat.lt_or_ge b r.sum with hr | hr
  · rcases Nat.lt_or_ge b f.sum with hf | hf
    · rw [shareOut_sum_caseC hr hf]
      have bound := parts_sum_le f.get b (Slot.all.map f.get).sum Slot.all
      rw [← Six.sum_eq] at bound ⊢
      exact Nat.le_of_mul_le_mul_left bound (by omega)
    · rw [shareOut_sum_caseB hr hf]
      have bound := parts_sum_le (fun k => r.get k - f.get k) (b - f.sum)
        (Slot.all.map fun j => r.get j - f.get j).sum Slot.all
      rcases Nat.eq_zero_or_pos (Slot.all.map fun j => r.get j - f.get j).sum with hz | hp
      · simp only [hz, Nat.div_zero, List.map_const', List.sum_replicate]
        simpa using hf
      · have := Nat.le_of_mul_le_mul_left bound hp
        omega
  · rwa [shareOut_caseA hr]

/-- Where the requests exceed the budget, the grants fall short of it by less than 1 mW for each slot that takes part
(R15). -/
theorem budget_lt_shareOut_sum {r f : Six Nat} {b : Nat} (h : ∀ k, f.get k ≤ r.get k) (hr : b < r.sum)
    (takes : Slot → Bool) (out : ∀ k, takes k = false → r.get k = 0) :
    b < (shareOut r f b).sum + (Slot.all.filter takes).length := by
  have floorsOut : ∀ k, takes k = false → f.get k = 0 := fun k hk => by
    have := h k; have := out k hk; omega
  rcases Nat.lt_or_ge b f.sum with hf | hf
  · rw [shareOut_sum_caseC hr hf]
    exact lt_parts_sum f.get b takes (by rw [← Six.sum_eq]; omega) floorsOut
  · rw [shareOut_sum_caseB hr hf]
    have excess : (Slot.all.map fun j => r.get j - f.get j).sum = r.sum - f.sum := by
      rw [← excess_sum h, Six.sum_tabulate]
    have := lt_parts_sum (fun k => r.get k - f.get k) (b - f.sum) takes (by rw [excess]; omega)
      (fun k hk => by simp [out k hk])
    omega

end Machine
end Sys2Proof
end

section
/-! SUPPORT. The level port: what a frame handed over does to the frame being sent and to the queue (R17), and the law
of the port as one of the Carriage Allocator alone (R182). -/

namespace Sys2Proof.Machine

/-! ## A frame handed over -/

/-- A frame handed over begins at once on an idle port, takes the place of a waiting frame for its slot, or joins the
end (R17). -/
theorem handOver_cases (ca : Allocator) (f : LevelFrame) :
    (ca.levelSending = none ∧ ca.levelQueue = [] ∧ ca.handOver f = ca.startLevel (some f)) ∨
    (¬ (ca.levelSending = none ∧ ca.levelQueue = []) ∧ f.slot ∈ ca.levelQueue.map LevelFrame.slot ∧
      ca.handOver f = { ca with levelQueue := ca.levelQueue.map fun g => if g.slot = f.slot then f else g }) ∨
    (¬ (ca.levelSending = none ∧ ca.levelQueue = []) ∧ f.slot ∉ ca.levelQueue.map LevelFrame.slot ∧
      ca.handOver f = { ca with levelQueue := ca.levelQueue ++ [f] }) := by
  unfold Allocator.handOver
  split_ifs with idle waiting
  · obtain ⟨hs, hq⟩ : ca.levelSending = none ∧ ca.levelQueue = [] := by simpa using idle
    exact .inl ⟨hs, hq, rfl⟩
  · exact .inr (.inl ⟨by simpa using idle, by simpa using waiting, rfl⟩)
  · exact .inr (.inr ⟨by simpa using idle, by simpa using waiting, rfl⟩)

/-- A frame that takes the place of a waiting one leaves the order of the slots as it was. -/
theorem replace_map_slot (q : List LevelFrame) (f : LevelFrame) :
    (q.map fun g => if g.slot = f.slot then f else g).map LevelFrame.slot = q.map LevelFrame.slot := by
  rw [List.map_map]
  refine List.map_congr_left fun g _ => ?_
  by_cases h : g.slot = f.slot <;> simp [h]

/-- A port that is sending goes on with the frame it sends (R17). -/
theorem handOver_sending {ca : Allocator} (h : ca.levelSending ≠ none) (f : LevelFrame) :
    (ca.handOver f).levelSending = ca.levelSending ∧ (ca.handOver f).levelBits = ca.levelBits := by
  obtain ⟨hs, -, -⟩ | ⟨-, -, ho⟩ | ⟨-, -, ho⟩ := handOver_cases ca f
  · exact absurd hs h
  · rw [ho]; exact ⟨rfl, rfl⟩
  · rw [ho]; exact ⟨rfl, rfl⟩

/-- The slots that wait behind a frame being sent, after another frame is handed over (R17). -/
theorem handOver_waiting {ca : Allocator} (h : ca.levelSending ≠ none) (f : LevelFrame) :
    (ca.handOver f).levelQueue.map LevelFrame.slot =
      ca.levelQueue.map LevelFrame.slot ++
        if f.slot ∈ ca.levelQueue.map LevelFrame.slot then [] else [f.slot] := by
  obtain ⟨hs, -, -⟩ | ⟨-, hw, ho⟩ | ⟨-, hw, ho⟩ := handOver_cases ca f
  · exact absurd hs h
  · rw [ho, if_pos hw, List.append_nil]; exact replace_map_slot _ f
  · rw [ho, if_neg hw, List.map_append]; rfl

/-! ## A level sent -/

@[simp] theorem sendLevel_levelSending (ca : Allocator) (k : Slot) (n : Nat) :
    (ca.sendLevel k n).levelSending = (ca.handOver ⟨k, n⟩).levelSending := rfl
@[simp] theorem sendLevel_levelQueue (ca : Allocator) (k : Slot) (n : Nat) :
    (ca.sendLevel k n).levelQueue = (ca.handOver ⟨k, n⟩).levelQueue := rfl
@[simp] theorem sendLevel_levelBits (ca : Allocator) (k : Slot) (n : Nat) :
    (ca.sendLevel k n).levelBits = (ca.handOver ⟨k, n⟩).levelBits := rfl

theorem sendLevel_lastSent_same (ca : Allocator) (k : Slot) (n : Nat) :
    ((ca.sendLevel k n).slots.get k).lastSent = n := by
  simp [sendLevel_slot]

theorem sendLevel_slot_other (ca : Allocator) {k j : Slot} (n : Nat) (h : j ≠ k) :
    (ca.sendLevel k n).slots.get j = ca.slots.get j := by
  rw [sendLevel_slot, if_neg h]

/-! ## The law of the port -/

/-- LevelPortLaw as a law of the Carriage Allocator. -/
def Allocator.portSound (ca : Allocator) : Prop :=
  (ca.levelQueue.map LevelFrame.slot).Nodup ∧
  (ca.levelSending = none → ca.levelQueue = []) ∧
  ca.levelBits = (ca.levelSending.map levelBitsOf).getD [] ∧
  (∀ k f, (ca.framesFor k).getLast? = some f → f.level = (ca.slots.get k).lastSent)

theorem levelPortLaw_iff (s : State) : LevelPortLaw s ↔ s.ca.portSound := Iff.rfl

/-- The law rests on the port and the last-sent levels alone. -/
theorem portSound_of_samePort {ca cb : Allocator} (hq : cb.levelQueue = ca.levelQueue)
    (hs : cb.levelSending = ca.levelSending) (hb : cb.levelBits = ca.levelBits)
    (hl : ∀ k, (cb.slots.get k).lastSent = (ca.slots.get k).lastSent) (h : ca.portSound) : cb.portSound := by
  have frames (k : Slot) : cb.framesFor k = ca.framesFor k := by rw [Allocator.framesFor, hs, hq]; rfl
  obtain ⟨nodup, idle, bits, last⟩ := h
  refine ⟨hq ▸ nodup, hs ▸ hq ▸ idle, hb ▸ hs ▸ bits, fun k f hf => ?_⟩
  rw [frames] at hf
  rw [hl]
  exact last k f hf

/-- A level sent for a slot keeps the law of the port (R16, R17). -/
theorem sendLevel_portSound {ca : Allocator} (h : ca.portSound) (k : Slot) (n : Nat) :
    (ca.sendLevel k n).portSound := by
  obtain ⟨nodup, idle, bits, last⟩ := h
  have lastOnWay : ∀ j f, ((ca.sendLevel k n).framesFor j).getLast? = some f →
      f.level = ((ca.sendLevel k n).slots.get j).lastSent := by
    intro j f hf
    by_cases hj : j = k
    · subst hj
      rw [sendLevel_last] at hf
      obtain rfl := Option.some.inj hf
      exact (sendLevel_lastSent_same ca j n).symm
    · rw [sendLevel_others ca k j n (Ne.symm hj)] at hf
      rw [sendLevel_slot_other ca n hj]
      exact last j f hf
  have port : ((ca.handOver ⟨k, n⟩).levelQueue.map LevelFrame.slot).Nodup ∧
      ((ca.handOver ⟨k, n⟩).levelSending = none → (ca.handOver ⟨k, n⟩).levelQueue = []) ∧
      (ca.handOver ⟨k, n⟩).levelBits = ((ca.handOver ⟨k, n⟩).levelSending.map levelBitsOf).getD [] := by
    obtain ⟨-, hq, ho⟩ | ⟨busy, -, ho⟩ | ⟨busy, hw, ho⟩ := handOver_cases ca ⟨k, n⟩ <;> rw [ho]
    · simp [hq, levelFrame_bits]
    · exact ⟨(replace_map_slot _ _).symm ▸ nodup, fun hs => absurd ⟨hs, idle hs⟩ busy, bits⟩
    · refine ⟨?_, fun hs => absurd ⟨hs, idle hs⟩ busy, bits⟩
      rw [List.map_append]
      exact List.nodup_append.mpr ⟨nodup, List.nodup_singleton _, fun a ha b hb => by
        rintro rfl
        exact hw (List.mem_singleton.mp hb ▸ ha)⟩
  obtain ⟨hn, hi, hb⟩ := port
  exact ⟨hn, hi, hb, lastOnWay⟩

/-- The end of a frame keeps the law of the port: the oldest waiting frame begins (R17). -/
theorem startLevel_portSound {ca : Allocator} (h : ca.portSound) :
    ({ ca.startLevel ca.levelQueue.head? with levelQueue := ca.levelQueue.tail } : Allocator).portSound := by
  obtain ⟨nodup, -, -, last⟩ := h
  refine ⟨?_, ?_, rfl, ?_⟩
  · exact (List.map_tail ▸ nodup.tail :)
  · intro hs
    have : ca.levelQueue = [] := List.head?_eq_none_iff.mp hs
    simp [this]
  · intro k f hf
    have onWay : ca.levelQueue.head?.toList ++ ca.levelQueue.tail = ca.levelQueue := by cases ca.levelQueue <;> rfl
    refine last k f ?_
    have waiting : (ca.levelQueue.filter fun f => f.slot == k).getLast? = some f := by
      simpa [Allocator.framesFor, Allocator.startLevel, onWay] using hf
    rw [Allocator.framesFor, List.filter_append, List.getLast?_append, waiting]
    rfl

/-! ## LEVEL_FRAME_SENT -/

/-- Settles O33, by whether a frame waits. -/
theorem levelFrameSentStartsOldest : Obligations.LevelFrameSentStartsOldest := by
  intro s acts
  have runs : exec .levelFrameSent s =
      .next { s with ca := { s.ca.startLevel s.ca.levelQueue.head? with levelQueue := s.ca.levelQueue.tail } } :=
    unlessHeld_acts acts _
  refine ⟨fun f rest hq => ?_, fun hq => ?_⟩
  · rw [runs, hq]
    rfl
  · simp [runs, hq, Allocator.startLevel]

end Sys2Proof.Machine
end

section
/-! SUPPORT. What a pass leaves: the requests and grants (R9 to R15), the Protection Monitor's flags and timers (R18,
R52), FLR (R14) and the level frames handed over (R16, R17). -/

namespace Sys2Proof.Machine

/-! ## Requests and effective floors -/

theorem requests_get (s : State) (k : Slot) :
    s.requests.get k = if s.participates k then (s.ca.slots.get k).wanted else 0 := by
  simp [State.requests]

theorem requests_silent {s : State} {k : Slot} (h : s.participates k = false) : s.requests.get k = 0 := by
  simp [requests_get, h]

/-- The effective floor of a slot is its floor within its request; a slot without a request has none (R11). -/
theorem floors_get (s : State) (k : Slot) :
    s.floors.get k = min (s.ca.slots.get k).floor (s.requests.get k) := by
  cases h : s.participates k <;> simp [State.floors, requests_get, h]

theorem floors_le_requests (s : State) (k : Slot) : s.floors.get k ≤ s.requests.get k := by
  rw [floors_get]
  exact Nat.min_le_right _ _

/-! ## The steps of a pass -/

/-- FLR at a pass: raised in Case C, cleared in Cases A and B (R14). -/
def reportShort (s out : State) : State :=
  if floorsShort s.requests s.floors s.ca.budget then raiseRecord (.plain .flr) none out
  else clearRecord (.plain .flr) out

/-- The level frames of some slots at the end of a pass, in their order (R16). -/
def handLevels (l : List Slot) (s : State) : State := l.foldl (fun t k => handLevel k t) s

theorem pass_eq (s : State) : pass s = handLevels Slot.all (reportShort s (allot s)) := rfl

theorem handLevels_cons (k : Slot) (l : List Slot) (s : State) :
    handLevels (k :: l) s = handLevels l (handLevel k s) := rfl

@[simp] theorem reportShort_ca (s out : State) : (reportShort s out).ca = out.ca := by
  unfold reportShort; split_ifs <;> rfl
@[simp] theorem reportShort_pm (s out : State) : (reportShort s out).pm = out.pm := by
  unfold reportShort; split_ifs <;> rfl

@[simp] theorem handLevels_fr (l : List Slot) (s : State) : (handLevels l s).fr = s.fr := by
  induction l generalizing s with
  | nil => rfl
  | cons k l ih => rw [handLevels_cons, ih, handLevel_fr]

theorem pass_fr (s : State) : (pass s).fr = (reportShort s (allot s)).fr := by rw [pass_eq, handLevels_fr]

@[simp] theorem pass_mask (s : State) : (pass s).fr.mask = s.fr.mask := by
  rw [pass_fr, reportShort]
  split_ifs <;> simp

theorem pass_request (s : State) (k : Slot) : ((pass s).ca.slots.get k).request = s.requests.get k := by
  rw [pass_slot]

theorem pass_grant (s : State) (k : Slot) :
    ((pass s).ca.slots.get k).grant = (shareOut s.requests s.floors s.ca.budget).get k := by
  rw [pass_slot]

theorem pass_lastSent (s : State) (k : Slot) :
    ((pass s).ca.slots.get k).lastSent = ((pass s).ca.slots.get k).grant := by
  rw [pass_slot]

/-! ## FLR -/

/-- A pass leaves FLR Active in Case C, where the log has a place for it (R14). -/
theorem pass_flr_caseC {s : State} (hr : s.ca.budget < s.requests.sum) (hf : s.ca.budget < s.floors.sum)
    (room : s.fr.log.length < 32) : (pass s).fr.isActive (.plain .flr) = true := by
  have short : floorsShort s.requests s.floors s.ca.budget = true := by simp [floorsShort, hr, hf]
  rw [pass_fr, reportShort, if_pos short]
  exact raise_active _ _ _ _ room

/-- A pass leaves FLR not Active in Cases A and B (R14). -/
theorem pass_flr_cleared {s : State} (h : s.requests.sum ≤ s.ca.budget ∨ s.floors.sum ≤ s.ca.budget) :
    (pass s).fr.isActive (.plain .flr) = false := by
  have enough : floorsShort s.requests s.floors s.ca.budget = false := by
    rcases h with h | h <;> simp [floorsShort, h]
  rw [pass_fr, reportShort, enough]
  exact clear_inactive _ _ _

/-! ## The Protection Monitor at a pass -/

/-- A level frame handed over at the end of a pass sets its slot's settle flag (R18). -/
theorem handLevel_guard (k j : Slot) (s : State) :
    (handLevel k s).pm.slots.get j =
      { s.pm.slots.get j with
        settle := (s.pm.slots.get j).settle || (decide (j = k) && (s.ca.slots.get j).needsFrame) } := by
  unfold handLevel
  split_ifs with needs
  · by_cases hj : j = k
    · subst hj
      simp [needs]
    · simp [Six.get_modify, hj]
  · by_cases hj : j = k
    · subst hj
      simp [needs]
    · simp [hj]

theorem handLevel_pm (k : Slot) (s : State) :
    (handLevel k s).pm =
      { s.pm with
        slots := (handLevel k s).pm.slots
        antSettle := s.pm.antSettle || (s.ca.slots.get k).needsFrame } := by
  unfold handLevel
  split_ifs with needs <;> simp [needs]

/-- Whether a slot needs a frame, once another slot's has been handed over. -/
theorem needsFrame_handLevel (k j : Slot) (s : State) :
    ((handLevel k s).ca.slots.get j).needsFrame = (!decide (j = k) && (s.ca.slots.get j).needsFrame) := by
  rw [handLevel_slot]
  by_cases hj : j = k <;> simp [hj, SlotRecord.needsFrame]

theorem handLevels_guard (l : List Slot) (j : Slot) (s : State) :
    (handLevels l s).pm.slots.get j =
      { s.pm.slots.get j with
        settle := (s.pm.slots.get j).settle || (decide (j ∈ l) && (s.ca.slots.get j).needsFrame) } := by
  induction l generalizing s with
  | nil => simp [handLevels]
  | cons k l ih =>
    rw [handLevels_cons, ih, handLevel_guard, needsFrame_handLevel]
    by_cases hj : j = k <;> simp [hj]

theorem handLevels_pm (l : List Slot) (s : State) :
    (handLevels l s).pm =
      { s.pm with
        slots := (handLevels l s).pm.slots
        antSettle := s.pm.antSettle || l.any fun k => (s.ca.slots.get k).needsFrame } := by
  induction l generalizing s with
  | nil => simp [handLevels]
  | cons k l ih =>
    rw [handLevels_cons, ih, handLevel_pm]
    have others : (s.ca.slots.get k).needsFrame = false →
        ∀ j, ((handLevel k s).ca.slots.get j).needsFrame = (s.ca.slots.get j).needsFrame := by
      intro hk j
      rw [needsFrame_handLevel]
      by_cases hj : j = k <;> simp [hj, hk]
    cases hk : (s.ca.slots.get k).needsFrame with
    | true => simp [hk]
    | false => simp [hk, others hk]

/-- The clean-run timer that a pass leaves a slot (R52). -/
def State.cleanRunAfter (s : State) (k : Slot) : Timer :=
  if s.participates k then
    if 0 < (s.pm.slots.get k).retry ∧ (s.pm.slots.get k).cleanRun = .stopped then
      s.timerFor (4 * (s.nc.setting.map Setting.holdOff).getD 0 * 1000)
    else (s.pm.slots.get k).cleanRun
  else .stopped

theorem cleanRunTimers_get (s : State) (k : Slot) :
    s.cleanRunTimers.get k = { s.pm.slots.get k with cleanRun := s.cleanRunAfter k } := by
  simp only [State.cleanRunTimers, Six.get_tabulate, State.cleanRunAfter]
  split_ifs <;> rfl

/-- Whether a pass changes a slot's level: its grant is not the level last sent (R16). -/
def State.passChanges (s : State) (k : Slot) : Bool :=
  !((shareOut s.requests s.floors s.ca.budget).get k == (s.ca.slots.get k).lastSent)

theorem needsFrame_allot (s : State) (k : Slot) : ((allot s).ca.slots.get k).needsFrame = s.passChanges k := by
  rw [allot_slot]
  rfl

/-- What a pass makes of the Protection Monitor's state of a slot (R18, R52). -/
theorem pass_guard (s : State) (k : Slot) :
    (pass s).pm.slots.get k =
      { s.pm.slots.get k with
        settle := (s.pm.slots.get k).settle || s.passChanges k
        cleanRun := s.cleanRunAfter k } := by
  rw [pass_eq, handLevels_guard, reportShort_pm, reportShort_ca, needsFrame_allot]
  simp [allot, cleanRunTimers_get, k.mem_all]

theorem pass_cleanRun (s : State) (k : Slot) : ((pass s).pm.slots.get k).cleanRun = s.cleanRunAfter k := by
  rw [pass_guard]

theorem pass_guard_frame (s : State) (k : Slot) :
    (pass s).pm.slots.get k =
      { s.pm.slots.get k with
        settle := ((pass s).pm.slots.get k).settle, cleanRun := ((pass s).pm.slots.get k).cleanRun } := by
  rw [pass_guard]

/-- What a pass makes of the rest of the Protection Monitor (R18). -/
theorem pass_pm (s : State) :
    (pass s).pm =
      { s.pm with
        slots := (pass s).pm.slots
        antSettle := s.pm.antSettle || Slot.all.any s.passChanges } := by
  rw [pass_eq, handLevels_pm]
  simp only [reportShort_pm, reportShort_ca, needsFrame_allot]
  rfl

theorem pass_pm_frame (s : State) :
    (pass s).pm = { s.pm with slots := (pass s).pm.slots, antSettle := (pass s).pm.antSettle } := by
  rw [pass_pm]

/-! ## The level frames of a pass -/

theorem handLevel_idle {k : Slot} {s : State} (h : (s.ca.slots.get k).needsFrame = false) : handLevel k s = s := by
  simp [handLevel, h]

theorem handLevel_ca {k : Slot} {s : State} (h : (s.ca.slots.get k).needsFrame = true) :
    (handLevel k s).ca = s.ca.sendLevel k (s.ca.slots.get k).grant := by
  simp [handLevel, h]

theorem handLevel_framesFor_other (s : State) {k j : Slot} (h : k ≠ j) :
    (handLevel k s).ca.framesFor j = s.ca.framesFor j := by
  cases needs : (s.ca.slots.get k).needsFrame with
  | false => rw [handLevel_idle needs]
  | true => rw [handLevel_ca needs, sendLevel_others _ _ _ _ h]

theorem handLevel_portSound {s : State} (k : Slot) (h : s.ca.portSound) : (handLevel k s).ca.portSound := by
  cases needs : (s.ca.slots.get k).needsFrame with
  | false => rwa [handLevel_idle needs]
  | true => rw [handLevel_ca needs]; exact sendLevel_portSound h _ _

theorem handLevels_portSound {s : State} (l : List Slot) (h : s.ca.portSound) : (handLevels l s).ca.portSound := by
  induction l generalizing s with
  | nil => exact h
  | cons k l ih => exact ih (handLevel_portSound k h)

/-- A pass keeps the law of the level port (R17). -/
theorem pass_portSound {s : State} (h : s.ca.portSound) : (pass s).ca.portSound := by
  rw [pass_eq]
  refine handLevels_portSound _ ?_
  rw [reportShort_ca]
  exact portSound_of_samePort (ca := s.ca) rfl rfl rfl (fun k => by rw [allot_slot]) h

/-- Where no slot needs a frame nothing is handed over (R16). -/
theorem handLevels_idle {l : List Slot} {s : State} (h : ∀ k ∈ l, (s.ca.slots.get k).needsFrame = false) :
    handLevels l s = s := by
  induction l with
  | nil => rfl
  | cons k l ih =>
    rw [handLevels_cons, handLevel_idle (h k (List.mem_cons_self ..))]
    exact ih fun j hj => h j (List.mem_cons_of_mem _ hj)

/-- A slot that needs no frame keeps the frames on their way for it (R16). -/
theorem handLevels_framesFor_idle {l : List Slot} {s : State} {j : Slot}
    (h : j ∉ l ∨ (s.ca.slots.get j).needsFrame = false) : (handLevels l s).ca.framesFor j = s.ca.framesFor j := by
  induction l generalizing s with
  | nil => rfl
  | cons k l ih =>
    by_cases hj : k = j
    · subst hj
      have needs : (s.ca.slots.get k).needsFrame = false := h.resolve_left (by simp)
      rw [handLevels_cons, handLevel_idle needs]
      exact ih (.inr needs)
    · rw [handLevels_cons, ih, handLevel_framesFor_other s hj]
      rw [needsFrame_handLevel]
      exact h.imp (fun hn hm => hn (List.mem_cons_of_mem _ hm)) fun hn => by simp [hn]

/-- A slot that needs a frame has it as the last on its way (R16, R17). -/
theorem handLevels_framesFor_last {l : List Slot} {s : State} {j : Slot} (mem : j ∈ l)
    (needs : (s.ca.slots.get j).needsFrame = true) :
    ((handLevels l s).ca.framesFor j).getLast? = some ⟨j, (s.ca.slots.get j).grant⟩ := by
  induction l generalizing s with
  | nil => simp at mem
  | cons k l ih =>
    rw [handLevels_cons]
    by_cases hj : j = k
    · subst hj
      have done : ((handLevel j s).ca.slots.get j).needsFrame = false := by simp [needsFrame_handLevel]
      rw [handLevels_framesFor_idle (.inr done), handLevel_ca needs, sendLevel_last]
    · have still : ((handLevel k s).ca.slots.get j).needsFrame = true := by simp [needsFrame_handLevel, hj, needs]
      rw [ih (List.mem_of_ne_of_mem hj mem) still, handLevel_slot, if_neg hj]

/-- On a busy port the frame being sent goes on, and each new frame takes the place of a waiting one for its slot or
joins the end in slot order (R17). -/
theorem handLevels_busy {l : List Slot} {s : State} (busy : s.ca.levelSending ≠ none) (nodup : l.Nodup) :
    (handLevels l s).ca.levelSending = s.ca.levelSending ∧ (handLevels l s).ca.levelBits = s.ca.levelBits ∧
    (handLevels l s).ca.levelQueue.map LevelFrame.slot =
      s.ca.levelQueue.map LevelFrame.slot ++
        l.filter fun k => (s.ca.slots.get k).needsFrame && !decide (k ∈ s.ca.levelQueue.map LevelFrame.slot) := by
  induction l generalizing s with
  | nil => simp [handLevels]
  | cons k l ih =>
    obtain ⟨notMem, nodup⟩ := List.nodup_cons.mp nodup
    cases needs : (s.ca.slots.get k).needsFrame with
    | false => simpa [handLevels_cons, handLevel_idle needs, List.filter_cons, needs] using ih busy nodup
    | true =>
      have sent : (handLevel k s).ca.levelSending = s.ca.levelSending ∧
          (handLevel k s).ca.levelBits = s.ca.levelBits := by
        rw [handLevel_ca needs]; exact handOver_sending busy _
      have waits : (handLevel k s).ca.levelQueue.map LevelFrame.slot = s.ca.levelQueue.map LevelFrame.slot ++
          if k ∈ s.ca.levelQueue.map LevelFrame.slot then [] else [k] := by
        rw [handLevel_ca needs]; exact handOver_waiting busy _
      obtain ⟨hs, hb, hq⟩ := ih (s := handLevel k s) (by rw [sent.1]; exact busy) nodup
      refine ⟨hs.trans sent.1, hb.trans sent.2, ?_⟩
      have later : ∀ j ∈ l, (((handLevel k s).ca.slots.get j).needsFrame &&
          !decide (j ∈ (handLevel k s).ca.levelQueue.map LevelFrame.slot)) =
          ((s.ca.slots.get j).needsFrame && !decide (j ∈ s.ca.levelQueue.map LevelFrame.slot)) := by
        intro j hj
        have hjk : j ≠ k := fun h => notMem (h ▸ hj)
        rw [needsFrame_handLevel, waits]
        split_ifs <;> simp [hjk]
      rw [handLevels_cons, hq, List.filter_congr later, waits, List.filter_cons, needs]
      split_ifs with waiting <;> simp_all

/-- While a port has no frame for any of some slots, their frames go out behind those on their way, in slot order
(R17). -/
theorem handLevels_new {l : List Slot} {s : State} (idle : s.ca.levelSending = none → s.ca.levelQueue = [])
    (nodup : l.Nodup) (fresh : ∀ k ∈ l, k ∉ s.ca.levelQueue.map LevelFrame.slot) :
    (handLevels l s).ca.levelSending.toList ++ (handLevels l s).ca.levelQueue =
      s.ca.levelSending.toList ++ s.ca.levelQueue ++
        (l.filter fun k => (s.ca.slots.get k).needsFrame).map fun k => ⟨k, (s.ca.slots.get k).grant⟩ := by
  induction l generalizing s with
  | nil => simp [handLevels]
  | cons k l ih =>
    obtain ⟨notMem, nodup⟩ := List.nodup_cons.mp nodup
    cases needs : (s.ca.slots.get k).needsFrame with
    | false =>
      simpa [handLevels_cons, handLevel_idle needs, List.filter_cons, needs] using
        ih idle nodup fun j hj => fresh j (List.mem_cons_of_mem _ hj)
    | true =>
      have freshK := fresh k (List.mem_cons_self ..)
      have later : ∀ j ∈ l, (handLevel k s).ca.slots.get j = s.ca.slots.get j := by
        intro j hj
        rw [handLevel_slot, if_neg fun h : j = k => notMem (h ▸ hj)]
      have out : (l.filter fun j => ((handLevel k s).ca.slots.get j).needsFrame).map
          (fun j => (⟨j, ((handLevel k s).ca.slots.get j).grant⟩ : LevelFrame)) =
          (l.filter fun j => (s.ca.slots.get j).needsFrame).map fun j => ⟨j, (s.ca.slots.get j).grant⟩ := by
        rw [List.filter_congr fun j hj => by rw [later j hj]]
        exact List.map_congr_left fun j hj => by rw [later j (List.mem_filter.mp hj).1]
      have port : ((handLevel k s).ca.levelSending = none → (handLevel k s).ca.levelQueue = []) ∧
          (∀ j ∈ l, j ∉ (handLevel k s).ca.levelQueue.map LevelFrame.slot) ∧
          (handLevel k s).ca.levelSending.toList ++ (handLevel k s).ca.levelQueue =
            s.ca.levelSending.toList ++ s.ca.levelQueue ++ [⟨k, (s.ca.slots.get k).grant⟩] := by
        simp only [handLevel_ca needs, sendLevel_levelSending, sendLevel_levelQueue]
        obtain ⟨hs, hq, ho⟩ | ⟨busy, hw, ho⟩ | ⟨busy, hw, ho⟩ := handOver_cases s.ca ⟨k, (s.ca.slots.get k).grant⟩
        · simp [ho, hs, hq]
        · exact absurd hw freshK
        · rw [ho]
          refine ⟨fun hs => absurd ⟨hs, idle hs⟩ busy, fun j hj => ?_, by simp⟩
          have := fresh j (List.mem_cons_of_mem _ hj)
          have hjk : j ≠ k := fun h => notMem (h ▸ hj)
          simp_all
      obtain ⟨idle', fresh', onWay⟩ := port
      rw [handLevels_cons, ih idle' nodup fresh', out, onWay, List.filter_cons, needs]
      simp

/-- The bits of a frame that a pass begins are on the port (R182). -/
theorem handLevels_bits {l : List Slot} {s : State}
    (h : ∀ f, s.ca.levelSending = some f → s.ca.levelBits = levelBitsOf f) :
    ∀ f, (handLevels l s).ca.levelSending = some f → (handLevels l s).ca.levelBits = levelBitsOf f := by
  induction l generalizing s with
  | nil => exact h
  | cons k l ih =>
    rw [handLevels_cons]
    refine ih ?_
    cases needs : (s.ca.slots.get k).needsFrame with
    | false => rwa [handLevel_idle needs]
    | true =>
      simp only [handLevel_ca needs, sendLevel_levelSending, sendLevel_levelBits]
      obtain ⟨-, -, ho⟩ | ⟨-, -, ho⟩ | ⟨-, -, ho⟩ := handOver_cases s.ca ⟨k, (s.ca.slots.get k).grant⟩ <;> rw [ho]
      · rintro f hf
        obtain rfl := Option.some.inj hf
        exact levelFrame_bits _
      · exact h
      · exact h

/-! ## The level frames of a pass, by the slots whose level it changes -/

theorem passChanges_eq (s : State) (k : Slot) :
    s.passChanges k = !(((pass s).ca.slots.get k).grant == (s.ca.slots.get k).lastSent) := by
  rw [pass_slot]
  rfl

theorem reportShort_allot_ca (s : State) : (reportShort s (allot s)).ca = (allot s).ca := reportShort_ca _ _

theorem allot_framesFor (s : State) (k : Slot) : (allot s).ca.framesFor k = s.ca.framesFor k := rfl

/-- Where a pass changes no level the port stays as it was (R16). -/
theorem pass_port_idle {s : State} (h : ∀ k, s.passChanges k = false) :
    (pass s).ca.levelQueue = s.ca.levelQueue ∧ (pass s).ca.levelSending = s.ca.levelSending ∧
      (pass s).ca.levelBits = s.ca.levelBits := by
  rw [pass_eq, handLevels_idle fun k _ => by rw [reportShort_allot_ca, needsFrame_allot, h], reportShort_allot_ca]
  exact ⟨rfl, rfl, rfl⟩

theorem pass_framesFor_idle {s : State} {k : Slot} (h : s.passChanges k = false) :
    (pass s).ca.framesFor k = s.ca.framesFor k := by
  rw [pass_eq, handLevels_framesFor_idle (.inr (by rw [reportShort_allot_ca, needsFrame_allot, h])),
    reportShort_allot_ca, allot_framesFor]

theorem pass_framesFor_last {s : State} {k : Slot} (h : s.passChanges k = true) :
    ((pass s).ca.framesFor k).getLast? = some ⟨k, ((pass s).ca.slots.get k).grant⟩ := by
  rw [pass_grant, pass_eq, handLevels_framesFor_last k.mem_all (by rw [reportShort_allot_ca, needsFrame_allot, h]),
    reportShort_allot_ca, allot_slot]

theorem pass_port_busy {s : State} (busy : s.ca.levelSending ≠ none) :
    (pass s).ca.levelSending = s.ca.levelSending ∧ (pass s).ca.levelBits = s.ca.levelBits ∧
    (pass s).ca.levelQueue.map LevelFrame.slot =
      s.ca.levelQueue.map LevelFrame.slot ++
        Slot.all.filter fun k => s.passChanges k && !decide (k ∈ s.ca.levelQueue.map LevelFrame.slot) := by
  have out := handLevels_busy (s := reportShort s (allot s)) (by rw [reportShort_allot_ca]; exact busy) Slot.all_nodup
  simp only [reportShort_allot_ca, needsFrame_allot] at out
  rw [pass_eq]
  exact out

theorem pass_port_new {s : State} (idle : s.ca.levelSending = none) (empty : s.ca.levelQueue = []) :
    (pass s).ca.levelSending.toList ++ (pass s).ca.levelQueue =
      (Slot.all.filter s.passChanges).map fun k => ⟨k, ((pass s).ca.slots.get k).grant⟩ := by
  have queue : (allot s).ca.levelQueue = [] := empty
  have sending : (allot s).ca.levelSending = none := idle
  have out := handLevels_new (l := Slot.all) (s := reportShort s (allot s))
    (fun _ => by rw [reportShort_allot_ca, queue]) Slot.all_nodup
    (fun k _ => by rw [reportShort_allot_ca, queue]; exact List.not_mem_nil)
  simp only [reportShort_allot_ca, queue, sending, allot_slot] at out
  simp only [pass_grant]
  rw [pass_eq, out]
  rfl

theorem pass_port_bits {s : State} (idle : s.ca.levelSending = none) {f : LevelFrame}
    (h : (pass s).ca.levelSending = some f) : (pass s).ca.levelBits = levelBitsOf f := by
  have none_sent (f : LevelFrame) (hf : (reportShort s (allot s)).ca.levelSending = some f) :
      (reportShort s (allot s)).ca.levelBits = levelBitsOf f := by
    rw [reportShort_allot_ca] at hf
    exact absurd (hf.symm.trans idle) (by simp)
  rw [pass_eq] at h ⊢
  exact handLevels_bits none_sent f h

/-! ## The statements about a pass -/

theorem pass_slot_frame (s : State) (k : Slot) :
    (pass s).ca.slots.get k =
      { s.ca.slots.get k with
        request := ((pass s).ca.slots.get k).request
        grant := ((pass s).ca.slots.get k).grant
        lastSent := ((pass s).ca.slots.get k).lastSent } := by
  rw [pass_slot]

/-- The grant of a pass in Case A (R12). -/
theorem pass_grant_caseA {s : State} (h : s.requests.sum ≤ s.ca.budget) (k : Slot) :
    ((pass s).ca.slots.get k).grant = s.requests.get k := by
  rw [pass_slot, shareOut_caseA h]

/-- The grant of a pass in Case B (R13). -/
theorem pass_grant_caseB {s : State} (hr : s.ca.budget < s.requests.sum) (hf : s.floors.sum ≤ s.ca.budget)
    (k : Slot) :
    ((pass s).ca.slots.get k).grant =
      s.floors.get k + (s.requests.get k - s.floors.get k) * (s.ca.budget - s.floors.sum) /
        (s.requests.sum - s.floors.sum) := by
  rw [pass_slot, ← excess_sum (floors_le_requests s)]
  exact shareOut_caseB hr hf k

/-- The grant of a pass in Case C (R14). -/
theorem pass_grant_caseC {s : State} (hf : s.ca.budget < s.floors.sum) (k : Slot) :
    ((pass s).ca.slots.get k).grant = s.floors.get k * s.ca.budget / s.floors.sum := by
  rw [pass_slot]
  exact shareOut_caseC (hf.trans_le (Six.sum_le_sum (floors_le_requests s))) hf k

/-- Two states are equal when every block is. -/
theorem State.ext_blocks {s t : State} (now : s.now = t.now) (mi : s.mi = t.mi) (ca : s.ca = t.ca) (pm : s.pm = t.pm)
    (lc : s.lc = t.lc) (nt : s.nt = t.nt) (su : s.su = t.su) (fr : s.fr = t.fr) (nc : s.nc = t.nc)
    (cu : s.cu = t.cu) (pending : s.pending = t.pending) : s = t := by
  cases s; cases t
  simp_all only

/-- A pass touches the Carriage Allocator, the Protection Monitor and the Fault Log alone. -/
theorem pass_frame (s : State) : pass s = { s with ca := (pass s).ca, pm := (pass s).pm, fr := (pass s).fr } := by
  apply State.ext_blocks <;> simp

/-- Settles O17, by the cases of the division and the frame of a pass. -/
theorem passDividesBudget : Obligations.PassDividesBudget := by
  intro s
  have request := pass_request s
  have lastSent := pass_lastSent s
  have caseA := @pass_grant_caseA s
  have caseB := @pass_grant_caseB s
  have caseC := @pass_grant_caseC s
  have flrCleared := @pass_flr_cleared s
  have flrRaised := @pass_flr_caseC s
  have cleanRun := pass_cleanRun s
  have guardFrame := pass_guard_frame s
  have slotFrame := pass_slot_frame s
  have frame := pass_frame s
  have budgetKept := pass_budget s
  have pmFrame := pass_pm_frame s
  generalize pass s = t at *
  intro t' req low sumReq sumLow budget
  have hreq (k : Slot) : req k = s.requests.get k := (requests_get s k).symm
  have hlow (k : Slot) : low k = s.floors.get k := by rw [floors_get, ← hreq]
  have hsumReq : sumReq = s.requests.sum := by simp only [sumReq, hreq, Six.sum_slots]
  have hsumLow : sumLow = s.floors.sum := by simp only [sumLow, hlow, Six.sum_slots]
  have floorsWithin : s.floors.sum ≤ s.requests.sum := Six.sum_le_sum (floors_le_requests s)
  simp only [hreq, hlow, hsumReq, hsumLow]
  refine ⟨fun k => ⟨request k, lastSent k, fun h => caseA h k, fun hf hr => caseB hr hf k, fun hf => caseC hf k⟩,
    fun h => flrCleared (.inr h), fun hf room => flrRaised (hf.trans_le floorsWithin) hf room, frame, slotFrame,
    budgetKept, fun k => ⟨guardFrame k, fun hp => ?_, fun hp kept => ?_, fun g hg hp retry stopped => ?_⟩, pmFrame⟩
  · rw [cleanRun, State.cleanRunAfter, hp]
    rfl
  · rw [cleanRun, State.cleanRunAfter, if_pos hp, if_neg]
    rintro ⟨hr, hc⟩
    rcases kept with h | h
    · omega
    · exact h hc
  · rw [cleanRun, State.cleanRunAfter, if_pos hp, if_pos ⟨retry, stopped⟩, hg]
    rfl

/-- Settles O18, by the remainder that each truncated share loses. -/
theorem truncationLosesLittle : Obligations.TruncationLosesLittle := by
  intro s
  have grants : (pass s).ca.slots.map SlotRecord.grant = shareOut s.requests s.floors s.ca.budget :=
    Six.ext_get fun k => by simp [pass_slot]
  have requests : (pass s).ca.slots.map SlotRecord.request = s.requests := Six.ext_get fun k => by simp [pass_slot]
  dsimp only
  rw [grants, requests]
  exact ⟨shareOut_sum_le_budget _ _ _, fun short =>
    budget_lt_shareOut_sum (floors_le_requests s) short _ fun _ => requests_silent⟩

/-- Settles O19, by the hand-over of the levels slot by slot. -/
theorem passSendsChangedLevelsOnly : Obligations.PassSendsChangedLevelsOnly := by
  intro s
  have changes := passChanges_eq s
  have settle (k : Slot) : ((pass s).pm.slots.get k).settle = ((s.pm.slots.get k).settle || s.passChanges k) := by
    rw [pass_guard]
  have antSettle : (pass s).pm.antSettle = (s.pm.antSettle || Slot.all.any s.passChanges) := by rw [pass_pm]
  have portIdle := @pass_port_idle s
  have framesIdle := @pass_framesFor_idle s
  have framesLast := @pass_framesFor_last s
  have portBusy := @pass_port_busy s
  have portNew := @pass_port_new s
  have portBits := @pass_port_bits s
  generalize pass s = t at *
  intro t' changed
  have kept {k : Slot} : (t.ca.slots.get k).grant = (s.ca.slots.get k).lastSent ↔ s.passChanges k = false := by
    simp [changes]
  have changed_eq : changed = Slot.all.filter s.passChanges := List.filter_congr fun k _ => (changes k).symm
  have waits (k : Slot) : (s.ca.levelQueue.any fun f => f.slot == k) =
      decide (k ∈ s.ca.levelQueue.map LevelFrame.slot) := by
    rw [Bool.eq_iff_iff]
    simp
  simp only [t', ← changes, changed_eq, ne_eq, kept, Bool.not_eq_false, waits, List.filter_filter]
  refine ⟨settle, antSettle, fun h => ?_, fun k => framesIdle, fun k => framesLast, fun busy => ?_,
    fun idle empty => ⟨portNew idle empty, fun none_changed => ?_, fun f => portBits idle⟩⟩
  · obtain ⟨hq, hs, -⟩ := portIdle h
    exact ⟨hq, hs⟩
  · simpa only [Bool.and_comm] using portBusy busy
  · have unchanged : ∀ k, s.passChanges k = false := fun k => by
      simpa using List.filter_eq_nil_iff.mp none_changed k k.mem_all
    obtain ⟨-, -, hb⟩ := portIdle unchanged
    exact hb

end Sys2Proof.Machine
end

section
/-! SUPPORT. What the shared operations carry over of the power, trim, setting and port laws. Relations between a
state and a later one: `Alike`, where nothing changes that these laws speak of; `Carried`, where the image and the port
stay in order and trims are only put to 0; `Kept`, where moreover the power law stands at the end if it stood before;
`Settled`, where it stands at the end by a pass. -/

namespace Sys2Proof.Machine

/-! ## The image and the trims of a slot's record -/

/-- The image-derived fields of a slot's record (R1, R2). -/
def SlotRecord.image (r : SlotRecord) : Bool × SlotSetting :=
  (r.enabled, ⟨r.operator, r.sector, r.nominal, r.floor, r.maximum, r.riseFull⟩)

theorem loaded_iff (e : Six SlotSetting) (k : Slot) (r : SlotRecord) :
    r = r.loaded e k ↔ r.image = (enabledBy e k, e.get k) := by
  constructor
  · intro h
    rw [h]
    rfl
  · intro h
    simp only [SlotRecord.image, Prod.mk.injEq] at h
    obtain ⟨he, hs⟩ := h
    simp only [SlotRecord.loaded, ← hs, ← he]

theorem unloaded_iff (r : SlotRecord) : r = r.unloaded ↔ r.image = (false, ⟨0, 0, 0, 0, 0, 16⟩) := by
  constructor
  · intro h
    rw [h]
    rfl
  · intro h
    cases r
    simp_all [SlotRecord.image, SlotRecord.unloaded]

/-! ## The relations -/

/-- Nothing has changed that the power, trim, setting and port laws speak of: of a slot's record at most load, stale and
full flag, and the level port only in keeping its law. -/
structure Alike (s t : State) : Prop where
  slots : ∀ k, t.ca.slots.get k =
    { s.ca.slots.get k with
      load := (t.ca.slots.get k).load
      stale := (t.ca.slots.get k).stale
      full := (t.ca.slots.get k).full }
  budget : t.ca.budget = s.ca.budget
  port : s.ca.portSound → t.ca.portSound
  round : t.su.round = s.su.round
  state : t.nc.state = s.nc.state
  setting : t.nc.setting = s.nc.setting
  restarting : t.restarting = s.restarting
  derate : t.mi.derate = s.mi.derate
  mute : t.mi.mute = s.mi.mute
  mask : t.fr.mask = s.fr.mask

/-- The image held, the fields derived from it and the mask are as before, the port keeps its law, a slot's trims are as
before or 0, and a round in flight is the same or abandoned. -/
structure Carried (s t : State) : Prop where
  image : ∀ k, (t.ca.slots.get k).image = (s.ca.slots.get k).image
  trims : ∀ k, ((t.ca.slots.get k).bias = (s.ca.slots.get k).bias ∧ (t.ca.slots.get k).fill = (s.ca.slots.get k).fill) ∨
    ((t.ca.slots.get k).bias = 0 ∧ (t.ca.slots.get k).fill = 0)
  port : s.ca.portSound → t.ca.portSound
  round : t.su.round = s.su.round ∨ t.su.round = none
  setting : t.nc.setting = s.nc.setting
  mask : t.fr.mask = s.fr.mask

/-- The budget in force is the derated composite budget (R10). -/
def State.budgetStands (s : State) : Prop := s.ca.budget = budgetOf s.bCfg s.mi.derate

/-- Carried over, and the power law stands again if it stood before. -/
structure Kept (s t : State) : Prop extends Carried s t where
  budget : s.budgetStands → t.budgetStands
  power : PowerLaw s → PowerLaw t

theorem Carried.refl (s : State) : Carried s s :=
  ⟨fun _ => rfl, fun _ => .inl ⟨rfl, rfl⟩, id, .inl rfl, rfl, rfl⟩

theorem Carried.trans {s t u : State} (h : Carried s t) (h' : Carried t u) : Carried s u where
  image k := (h'.image k).trans (h.image k)
  trims k := by
    rcases h'.trims k with ⟨hb, hf⟩ | zero
    · rw [hb, hf]
      exact h.trims k
    · exact .inr zero
  port p := h'.port (h.port p)
  round := by
    rcases h'.round with hr | none
    · rw [hr]
      exact h.round
    · exact .inr none
  setting := h'.setting.trans h.setting
  mask := h'.mask.trans h.mask

theorem Kept.refl (s : State) : Kept s s := ⟨Carried.refl s, id, id⟩

theorem Kept.trans {s t u : State} (h : Kept s t) (h' : Kept t u) : Kept s u :=
  ⟨h.toCarried.trans h'.toCarried, fun b => h'.budget (h.budget b), fun p => h'.power (h.power p)⟩

/-! ## The power law -/

theorem bCfg_eq {s t : State} (h : t.nc.setting = s.nc.setting) : t.bCfg = s.bCfg := by rw [State.bCfg, h]; rfl

theorem budgetStands_of_same {s t : State} (hb : t.ca.budget = s.ca.budget) (hg : t.nc.setting = s.nc.setting)
    (hd : t.mi.derate = s.mi.derate) (h : s.budgetStands) : t.budgetStands := by
  rwa [State.budgetStands, hb, bCfg_eq hg, hd]

/-- A pass leaves requests and grants as R6, R9, R15 and R16 give them. -/
theorem pass_allotted (s : State) : (pass s).allotted := by
  refine ⟨fun k => ?_, fun k => ?_, fun k => pass_lastSent s k, ?_⟩
  · rw [pass_participates, pass_request, requests_get, pass_slot]
    rfl
  · rw [pass_request, pass_grant]
    exact shareOut_le_request (floors_le_requests s) _ k
  · have grants : (pass s).ca.slots.map SlotRecord.grant = shareOut s.requests s.floors s.ca.budget :=
      Six.ext_get fun k => by rw [Six.get_map, pass_grant]
    rw [grants, pass_budget]
    exact shareOut_sum_le_budget _ _ _

theorem pass_budgetStands {s : State} (h : s.budgetStands) : (pass s).budgetStands :=
  budgetStands_of_same (pass_budget s) (by rw [pass_nc]) (by rw [pass_mi]) h

/-- A pass on standing off flags and a standing budget leaves the power law standing. -/
theorem powerLaw_pass {s : State} (ho : s.offFlagsStand) (hb : s.budgetStands) : PowerLaw (pass s) :=
  ⟨pass_allotted s, pass_keeps_off s ho, pass_budgetStands hb⟩

theorem evaluateOff_budgetStands {s : State} (h : s.budgetStands) : (evaluateOff s).budgetStands :=
  budgetStands_of_same (evaluateOff_budget s) (by rw [evaluateOff_nc]) (by rw [evaluateOff_mi]) h

/-- Off flags and a pass leave the power law standing, whatever changed before, if the budget stands. -/
theorem powerLaw_settled {s : State} (hb : s.budgetStands) : PowerLaw (pass (evaluateOff s)) :=
  powerLaw_pass (evaluateOff_stands s) (evaluateOff_budgetStands hb)

theorem Alike.participates {s t : State} (h : Alike s t) (k : Slot) : t.participates k = s.participates k := by
  rw [State.participates, State.participates, State.onAir, State.onAir, h.slots k, h.state, h.restarting, h.mute]

theorem Alike.offNow {s t : State} (h : Alike s t) (k : Slot) : t.offNow k = s.offNow k := by
  rw [State.offNow, State.offNow, h.slots k, h.state, h.restarting, h.mute]

theorem Alike.offFlagsStand {s t : State} (h : Alike s t) (off : s.offFlagsStand) : t.offFlagsStand := by
  intro k
  rw [h.offNow, h.slots k]
  exact off k

theorem Alike.powerLaw {s t : State} (h : Alike s t) (p : PowerLaw s) : PowerLaw t := by
  obtain ⟨⟨request, grant, lastSent, sum⟩, off, budget⟩ := p
  have grants : t.ca.slots.map SlotRecord.grant = s.ca.slots.map SlotRecord.grant :=
    Six.ext_get fun k => by rw [Six.get_map, Six.get_map, h.slots k]
  refine ⟨⟨fun k => ?_, fun k => ?_, fun k => ?_, ?_⟩, h.offFlagsStand off,
    budgetStands_of_same h.budget h.setting h.derate budget⟩
  · rw [h.participates, h.slots k]
    exact request k
  · rw [h.slots k]
    exact grant k
  · rw [h.slots k]
    exact lastSent k
  · rw [grants, h.budget]
    exact sum

theorem Alike.kept {s t : State} (h : Alike s t) : Kept s t where
  image k := by rw [h.slots k]; rfl
  trims k := .inl (by rw [h.slots k]; exact ⟨rfl, rfl⟩)
  port := h.port
  round := .inl h.round
  setting := h.setting
  mask := h.mask
  budget := budgetStands_of_same h.budget h.setting h.derate
  power := h.powerLaw

/-- Changes that stay away from the Carriage Allocator, the Spread Unit, Node Control and Measurement Intake. -/
theorem Alike.of_blocks {s t : State} (ca : t.ca = s.ca) (su : t.su = s.su) (nc : t.nc = s.nc) (mi : t.mi = s.mi)
    (mask : t.fr.mask = s.fr.mask) : Alike s t := by
  refine ⟨fun k => ?_, ?_, ?_, by rw [su], ?_, ?_, ?_, ?_, ?_, mask⟩ <;> simp [ca, nc, mi, State.restarting]

theorem Alike.refl (s : State) : Alike s s := .of_blocks rfl rfl rfl rfl rfl

theorem Alike.trans {s t u : State} (h : Alike s t) (h' : Alike t u) : Alike s u where
  slots k := by rw [h'.slots k, h.slots k]
  budget := h'.budget.trans h.budget
  port p := h'.port (h.port p)
  round := h'.round.trans h.round
  state := h'.state.trans h.state
  setting := h'.setting.trans h.setting
  restarting := h'.restarting.trans h.restarting
  derate := h'.derate.trans h.derate
  mute := h'.mute.trans h.mute
  mask := h'.mask.trans h.mask

/-- Carried over, and the power law stands at the end whatever became of it before, if the budget did. -/
structure Settled (s t : State) : Prop extends Carried s t where
  power : s.budgetStands → PowerLaw t

theorem Settled.kept {s t : State} (h : Settled s t) : Kept s t :=
  ⟨h.toCarried, fun b => (h.power b).2.2, fun p => h.power p.2.2⟩

end Sys2Proof.Machine
end

section
/-! SUPPORT. The shared operations and the parts of the meanings keep the laws: nothing they touch is in them, or the
budget is divided anew at their end. -/

namespace Sys2Proof.Machine

/-! ## The table's own operations -/

theorem evaluateOff_carried (s : State) : Carried s (evaluateOff s) where
  image k := by rw [evaluateOff_slot]; rfl
  trims k := .inl (by rw [evaluateOff_slot]; exact ⟨rfl, rfl⟩)
  port := portSound_of_samePort (evaluateOff_levelQueue s) (evaluateOff_levelSending s) (evaluateOff_levelBits s)
    fun k => by rw [evaluateOff_slot]
  round := .inl (by rw [evaluateOff_su])
  setting := by rw [evaluateOff_nc]
  mask := by rw [evaluateOff_fr]

theorem pass_carried (s : State) : Carried s (pass s) where
  image k := by rw [pass_slot]; rfl
  trims k := .inl (by rw [pass_slot]; exact ⟨rfl, rfl⟩)
  port := pass_portSound
  round := .inl (by rw [pass_su])
  setting := by rw [pass_nc]
  mask := pass_mask s

theorem settled_carried (s : State) : Carried s (pass (evaluateOff s)) :=
  (evaluateOff_carried s).trans (pass_carried _)

/-- Work that ends in off flags and a pass, followed by what changes nothing more, leaves the laws standing. -/
theorem Settled.of_pass {s u t : State} (carried : Carried s u) (budget : s.budgetStands → u.budgetStands)
    (rest : Alike (pass (evaluateOff u)) t) : Settled s t where
  toCarried := (carried.trans (settled_carried u)).trans rest.kept.toCarried
  power b := rest.powerLaw (powerLaw_settled (budget b))

theorem zeroTrims_slot (s : State) (k : Slot) :
    (zeroTrims s).ca.slots.get k = { s.ca.slots.get k with bias := 0, fill := 0 } := by simp [zeroTrims]

theorem zeroTrims_carried (s : State) : Carried s (zeroTrims s) where
  image k := by rw [zeroTrims_slot]; rfl
  trims k := .inr (by rw [zeroTrims_slot]; exact ⟨rfl, rfl⟩)
  port := portSound_of_samePort rfl rfl rfl fun k => by rw [zeroTrims_slot]
  round := .inl rfl
  setting := rfl
  mask := rfl

theorem abandonRound_carried (s : State) : Carried s (abandonRound s) where
  image _ := rfl
  trims _ := .inl ⟨rfl, rfl⟩
  port := id
  round := .inr rfl
  setting := rfl
  mask := rfl

/-- A change of one slot's trip state and of the Protection Monitor. -/
theorem setTrip_carried (s : State) (k : Slot) (trip : TripState) (pm : Protection) :
    Carried s { s with pm := pm, ca := { s.ca with slots := s.ca.slots.modify k fun r => { r with trip := trip } } } where
  image j := Six.get_modify_field s.ca.slots k j _ SlotRecord.image fun _ => rfl
  trims j := .inl ⟨Six.get_modify_field s.ca.slots k j _ SlotRecord.bias fun _ => rfl,
    Six.get_modify_field s.ca.slots k j _ SlotRecord.fill fun _ => rfl⟩
  port := portSound_of_samePort rfl rfl rfl fun j => Six.get_modify_field s.ca.slots k j _ SlotRecord.lastSent fun _ => rfl
  round := .inl rfl
  setting := rfl
  mask := rfl

/-! ## Operations outside the table -/

theorem alarm_alike (s : State) : Alike s (alarm s) := .of_blocks (by simp) (by simp) (by simp) (by simp) (by simp)

theorem breakRequest_alike (s : State) : Alike s (breakRequest s) :=
  .of_blocks (by simp) (by simp) (by simp) (by simp) (by simp)

theorem raiseRecord_alike (k : Key) (x : Option (Int × Int)) (s : State) : Alike s (raiseRecord k x s) :=
  .of_blocks rfl rfl rfl rfl (by simp)

theorem clearRecord_alike (k : Key) (s : State) : Alike s (clearRecord k s) :=
  .of_blocks rfl rfl rfl rfl (by simp)

/-! ## Changes of the node state -/

theorem stateChanged_alike (s : State) : Alike (pass (evaluateOff s)) (stateChanged s) := alarm_alike _

/-- An entry to a node state with the trims put to 0: off flags and pass at its end, and what follows them (R20). -/
theorem Settled.of_entry {s u t : State} (carried : Carried s u) (budget : s.budgetStands → u.budgetStands)
    (rest : Alike (stateChanged (zeroTrims u)) t) : Settled s t :=
  .of_pass (carried.trans (zeroTrims_carried u)) budget ((stateChanged_alike _).trans rest)

/-- A state that differs in the node state and the join timer. -/
theorem setState_carried (s : State) (n : Option NodeState) (join : Timer) :
    Carried s { s with nc := { s.nc with state := n, joinTimer := join } } where
  image _ := rfl
  trims _ := .inl ⟨rfl, rfl⟩
  port := id
  round := .inl rfl
  setting := rfl
  mask := rfl

theorem enterWithdrawn_settled (s : State) : Settled s (enterWithdrawn s) :=
  .of_entry ((abandonRound_carried s).trans (setState_carried _ (some .withdrawn) .stopped)) id (breakRequest_alike _)

theorem withdraw_kept (s : State) : Kept s (withdraw s) := by
  unfold withdraw
  split_ifs
  · exact (enterWithdrawn_settled s).kept
  · exact .refl s

/-- A fault raised keeps the laws, whatever it brings (R143, R149, R150). -/
theorem raiseFault_kept (k : Key) (x : Option (Int × Int)) (s : State) : Kept s (raiseFault k x s) := by
  have alarmIf (b : Bool) (u : State) : Kept u (if b then alarm u else u) := by
    split_ifs
    exacts [(alarm_alike u).kept, .refl u]
  have withdrawIf (b : Bool) (u : State) : Kept u (if b then withdraw u else u) := by
    split_ifs
    exacts [withdraw_kept u, .refl u]
  have recorded := (raiseRecord_alike k x s).kept
  unfold raiseFault
  split_ifs
  · exact (((recorded.trans (alarmIf _ _)).trans (withdrawIf _ _)).trans (withdrawIf _ _)).trans
      (breakRequest_alike _).kept
  · exact (recorded.trans (alarmIf _ _)).trans (withdrawIf _ _)
  · exact recorded

theorem startSampleTimer_alike (s : State) : Alike s (startSampleTimer s) where
  slots _ := rfl
  budget := rfl
  port := id
  round := rfl
  state := rfl
  setting := rfl
  restarting := rfl
  derate := rfl
  mute := rfl
  mask := rfl

theorem enterJoining_settled (s : State) : Settled s (enterJoining s) := by
  have timers (u : State) (p : Nat) (join : Timer) : Alike u
      { startBeaconTimer p u with nc := { (startBeaconTimer p u).nc with joinTimer := join } } :=
    ⟨fun _ => rfl, rfl, id, rfl, rfl, rfl, rfl, rfl, rfl, rfl⟩
  refine .of_entry (setState_carried s (some .joining) s.nc.joinTimer) id ?_
  unfold enterJoining
  dsimp only
  split
  · exact timers _ _ _
  · exact (startSampleTimer_alike _).trans (timers _ _ _)
  · exact (startSampleTimer_alike _).trans (timers _ _ _)

theorem setRoundTimer_alike (s : State) (timer : Timer) : Alike s { s with su := { s.su with roundTimer := timer } } :=
  ⟨fun _ => rfl, rfl, id, rfl, rfl, rfl, rfl, rfl, rfl, rfl⟩

theorem enterServing_settled (s : State) : Settled s (enterServing s) :=
  .of_pass (setState_carried s (some .serving) .stopped) id ((stateChanged_alike _).trans (setRoundTimer_alike _ _))

/-- A state that differs in derate step, mute and sample timer. -/
theorem setIntake_carried (s : State) (mi : Intake) : Carried s { s with mi := mi } where
  image _ := rfl
  trims _ := .inl ⟨rfl, rfl⟩
  port := id
  round := .inl rfl
  setting := rfl
  mask := rfl

theorem budget_of_noImage {s : State} (setting : s.nc.setting = none) (h : s.budgetStands) : s.ca.budget = 0 := by
  rw [h, State.bCfg, setting]
  exact Nat.div_eq_of_lt (by simp)

/-- Entry to Unconfigured, of a node without an image, leaves the laws standing (R160). -/
theorem enterUnconfigured_settled {s : State} (setting : s.nc.setting = none) : Settled s (enterUnconfigured s) := by
  have timer (u : State) (p : Nat) : Alike u (startBeaconTimer p u) :=
    ⟨fun _ => rfl, rfl, id, rfl, rfl, rfl, rfl, rfl, rfl, rfl⟩
  have rest (u : State) : Alike (pass (evaluateOff (zeroTrims (abandonRound u))))
      (startBeaconTimer Config.unconfiguredPeriod (stateChanged (zeroTrims (abandonRound u)))) :=
    (stateChanged_alike _).trans (timer _ _)
  have carried := ((setIntake_carried s { s.mi with sampleTimer := .stopped, derate := 0, mute := false }).trans
    (setState_carried _ (some .unconfigured) .stopped)).trans ((abandonRound_carried _).trans (zeroTrims_carried _))
  refine ⟨(carried.trans (settled_carried _)).trans (rest _).kept.toCarried,
    fun b => (rest _).powerLaw (powerLaw_settled ?_)⟩
  have noBudget : s.bCfg = 0 := by rw [State.bCfg, setting]; rfl
  show s.ca.budget = budgetOf s.bCfg 0
  rw [budget_of_noImage setting b, noBudget]
  rfl

/-! ## Trips -/

theorem sendLevel_slot_frame (ca : Allocator) (k j : Slot) (n : Nat) :
    (ca.sendLevel k n).slots.get j =
      { ca.slots.get j with lastSent := ((ca.sendLevel k n).slots.get j).lastSent } := by
  rw [sendLevel_slot]
  split_ifs <;> rfl

theorem setSent_carried (s : State) (k : Slot) (n : Nat) : Carried s { s with ca := s.ca.sendLevel k n } where
  image j := by rw [sendLevel_slot_frame]; rfl
  trims j := .inl (by rw [sendLevel_slot_frame]; exact ⟨rfl, rfl⟩)
  port p := sendLevel_portSound p k n
  round := .inl rfl
  setting := rfl
  mask := rfl

theorem setSent_offFlagsStand {s : State} (k : Slot) (n : Nat) (h : s.offFlagsStand) :
    ({ s with ca := s.ca.sendLevel k n } : State).offFlagsStand := by
  intro j
  rw [offNow_eq (s := s) (t := { s with ca := s.ca.sendLevel k n }) j (by rw [sendLevel_slot_frame])
    (by rw [sendLevel_slot_frame]) rfl rfl, sendLevel_slot_frame]
  exact h j

/-- The level 0 frame of a trip, where the level last sent is not 0 already (R19). -/
def silenceLevel (k : Slot) (s : State) : State :=
  if (s.ca.slots.get k).lastSent = 0 then s else { s with ca := s.ca.sendLevel k 0 }

/-- The settle flags that a trip sets (R19). -/
def settleMonitor (k : Slot) (s : State) : State :=
  { s with pm := { s.pm with antSettle := true, slots := s.pm.slots.modify k fun g => { g with settle := true } } }

theorem tripActions_eq (k : Slot) (s : State) :
    tripActions k s = pass (settleMonitor k (silenceLevel k (evaluateOff s))) := rfl

theorem silenceLevel_carried (k : Slot) (s : State) : Carried s (silenceLevel k s) := by
  unfold silenceLevel
  split_ifs
  exacts [.refl s, setSent_carried s k 0]

theorem silenceLevel_offFlagsStand {s : State} (k : Slot) (h : s.offFlagsStand) :
    (silenceLevel k s).offFlagsStand := by
  unfold silenceLevel
  split_ifs
  exacts [h, setSent_offFlagsStand k 0 h]

theorem silenceLevel_budgetStands {s : State} (k : Slot) (h : s.budgetStands) : (silenceLevel k s).budgetStands := by
  unfold silenceLevel
  split_ifs
  · exact h
  · exact budgetStands_of_same (s := s) (sendLevel_budget _ _ _) rfl rfl h

theorem setMonitor_alike (s : State) (pm : Protection) : Alike s { s with pm := pm } :=
  .of_blocks rfl rfl rfl rfl rfl

theorem settleMonitor_alike (k : Slot) (s : State) : Alike s (settleMonitor k s) := setMonitor_alike s _

/-- The Carriage Allocator's actions at a trip (R19) restore the power law. -/
theorem tripActions_settled {s u : State} (k : Slot) (carried : Carried s u)
    (budget : s.budgetStands → u.budgetStands) : Settled s (tripActions k u) := by
  have settle := settleMonitor_alike k (silenceLevel k (evaluateOff u))
  have stands (b : s.budgetStands) : (settleMonitor k (silenceLevel k (evaluateOff u))).budgetStands :=
    settle.kept.budget (silenceLevel_budgetStands k (evaluateOff_budgetStands (budget b)))
  have off := settle.offFlagsStand (silenceLevel_offFlagsStand k (evaluateOff_stands u))
  rw [tripActions_eq]
  exact
    { toCarried := (((carried.trans (evaluateOff_carried u)).trans (silenceLevel_carried k _)).trans
        settle.kept.toCarried).trans (pass_carried _)
      power := fun b => powerLaw_pass off (stands b) }

theorem tripSlot_kept (g : Setting) (a : State) (forward : Nat) (k : Slot) (s : State) :
    Kept s (tripSlot g a forward k s) := by
  unfold tripSlot
  dsimp only
  split_ifs
  · exact ((tripActions_settled k (setTrip_carried s k _ _) id).kept.trans (raiseFault_kept _ _ _)).trans
      (setMonitor_alike _ _).kept
  · exact (tripActions_settled k (setTrip_carried s k _ _) id).kept.trans (raiseFault_kept _ _ _)

/-! ## Measurement frames -/

theorem testSlot_kept (g : Setting) (a : State) (m : MeasFrame) (s : State) (k : Slot) :
    Kept s (testSlot g a m s k) := by
  have filtered (n : Nat) : Kept s (setFilter k n s) := (setMonitor_alike s _).kept
  unfold testSlot
  dsimp only
  split_ifs
  exacts [tripSlot_kept g a _ k s, filtered _, filtered _, filtered _]

theorem testSlots_kept (g : Setting) (a : State) (m : MeasFrame) (l : List Slot) (s : State) :
    Kept s (l.foldl (testSlot g a m) s) := by
  induction l generalizing s with
  | nil => exact .refl s
  | cons k l ih => exact (testSlot_kept g a m s k).trans (ih _)

theorem latchAntenna_kept (g : Setting) (m : MeasFrame) (s : State) : Kept s (latchAntenna g m s) := by
  unfold latchAntenna
  exact (setMonitor_alike s { s.pm with antLatch := true, antFilter := 0 }).kept.trans (raiseFault_kept _ _ _)

theorem testAntenna_kept (g : Setting) (a : State) (m : MeasFrame) (s : State) : Kept s (testAntenna g a m s) := by
  have filtered (n : Nat) : Kept s (setAntFilter n s) := (setMonitor_alike s _).kept
  unfold testAntenna
  split_ifs
  exacts [latchAntenna_kept g m s, filtered _, filtered _, filtered _]

theorem protect_kept (m : MeasFrame) (s : State) : Kept s (protect m s) := by
  unfold protect
  dsimp only
  split
  · exact ((setMonitor_alike s _).trans (setMonitor_alike _ _)).kept
  · exact ((testSlots_kept _ _ _ _ _).trans (testAntenna_kept _ _ _ _)).trans (setMonitor_alike _ _).kept

theorem reportDerate_kept (g : Setting) (before after : Nat) (t : Int) (s : State) :
    Kept s (reportDerate g before after t s) := by
  unfold reportDerate
  split_ifs
  exacts [raiseFault_kept _ _ s, (clearRecord_alike _ s).kept, .refl s]

theorem reportMute_kept (g : Setting) (before after : Bool) (t : Int) (s : State) :
    Kept s (reportMute g before after t s) := by
  unfold reportMute
  split_ifs
  exacts [raiseFault_kept _ _ s, (clearRecord_alike _ s).kept, .refl s]

theorem recomputeBudget_budgetStands (s : State) : (recomputeBudget s).budgetStands := rfl

theorem setDerating_carried (s : State) (mi : Intake) : Carried s (recomputeBudget { s with mi := mi }) :=
  ⟨fun _ => rfl, fun _ => .inl ⟨rfl, rfl⟩, portSound_of_samePort rfl rfl rfl fun _ => rfl, .inl rfl, rfl, rfl⟩

theorem thermal_kept (g : Setting) (t : Int) (s : State) : Kept s (thermal g t s) := by
  unfold thermal
  dsimp only
  split_ifs
  · exact .refl s
  · have reported (u : State) := (reportDerate_kept g s.mi.derate (nextStep g s.mi.derate t) t u).trans
      (reportMute_kept g s.mi.mute (nextMute g s.mi.mute t) t _)
    have budget := (reported _).budget (recomputeBudget_budgetStands
      { s with mi := { s.mi with derate := nextStep g s.mi.derate t, mute := nextMute g s.mi.mute t } })
    exact
      { toCarried := ((setDerating_carried s _).trans (reported _).toCarried).trans (settled_carried _)
        budget := fun _ => pass_budgetStands (evaluateOff_budgetStands budget)
        power := fun _ => powerLaw_settled budget }

/-- A change of load, stale and full flags of the slots' records. -/
theorem setLoads_alike (s : State) (f : Slot → SlotRecord)
    (h : ∀ k, f k = { s.ca.slots.get k with load := (f k).load, stale := (f k).stale, full := (f k).full }) :
    Alike s { s with ca := { s.ca with slots := .tabulate f } } where
  slots k := by rw [Six.get_tabulate]; exact h k
  budget := rfl
  port := portSound_of_samePort rfl rfl rfl fun k => by rw [Six.get_tabulate, h k]
  round := rfl
  state := rfl
  setting := rfl
  restarting := rfl
  derate := rfl
  mute := rfl
  mask := rfl

theorem updateLoads_alike (g : Setting) (m : MeasFrame) (s : State) : Alike s (updateLoads g m s) := by
  refine (clearRecord_alike (.plain .smp) s).trans (setLoads_alike _ _ fun k => ?_)
  unfold SlotRecord.withLoad
  split_ifs <;> rfl

theorem loadWork_alike (m : MeasFrame) (s : State) : Alike s (loadWork m s) := by
  unfold loadWork
  split
  · exact .refl s
  · split_ifs
    · exact updateLoads_alike _ m s
    · exact .refl s

/-- Measurement Intake's last frame and sample timer are outside the laws. -/
theorem setIntake_alike (s : State) (mi : Intake) (derate : mi.derate = s.mi.derate) (mute : mi.mute = s.mi.mute) :
    Alike s { s with mi := mi } :=
  ⟨fun _ => rfl, rfl, id, rfl, rfl, rfl, rfl, derate, mute, rfl⟩

theorem refreshSampleTimer_alike (s : State) : Alike s (refreshSampleTimer s) := by
  unfold refreshSampleTimer
  split
  exacts [.refl s, setIntake_alike s _ rfl rfl, setIntake_alike s _ rfl rfl]

theorem goodFrame_kept (m : MeasFrame) (s : State) : Kept s (goodFrame m s) := by
  have before : Alike s (loadWork m (refreshSampleTimer { s with mi := { s.mi with lastFrame := some m } })) :=
    ((setIntake_alike s { s.mi with lastFrame := some m } rfl rfl).trans (refreshSampleTimer_alike _)).trans (loadWork_alike m _)
  have thermal (u : State) : Kept u (thermalWork m u) := by
    unfold thermalWork
    split
    exacts [.refl u, thermal_kept _ _ u]
  exact (before.kept.trans (protect_kept m _)).trans (thermal _)

end Sys2Proof.Machine
end

section
/-! SUPPORT. The line's operations and the commands keep the laws; and what a step can do: it keeps the laws, or it is a
reset, the end of an image read, or the begin or commit of a round. -/

namespace Sys2Proof.Machine

/-! ## The line -/

theorem setLine_alike (s : State) (lc : Line) : Alike s { s with lc := lc } := .of_blocks rfl rfl rfl rfl rfl

theorem reach_alike (due : Nat) (s : State) : Alike s (s.reach due) := .of_blocks rfl rfl rfl rfl rfl

theorem setControl_alike (s : State) (nc : Control) (state : nc.state = s.nc.state) (setting : nc.setting = s.nc.setting)
    (restart : nc.restart = .inProgress ↔ s.nc.restart = .inProgress) : Alike s { s with nc := nc } where
  slots _ := rfl
  budget := rfl
  port := id
  round := rfl
  state := state
  setting := setting
  restarting := by rw [Bool.eq_iff_iff]; simpa [State.restarting] using restart
  derate := rfl
  mute := rfl
  mask := rfl

theorem setCommands_alike (s : State) (lc : Line) (cu : Commands) : Alike s { s with lc := lc, cu := cu } :=
  .of_blocks rfl rfl rfl rfl rfl

theorem restartReplyGone_alike (s : State) : Alike s (restartReplyGone s) := by
  unfold restartReplyGone
  split_ifs
  · exact setControl_alike s _ rfl rfl Iff.rfl
  · exact .refl s

theorem reportLeft_alike (heard : Bool) (s : State) (e : TxEntry) : Alike s (reportLeft heard s e) := by
  cases e with
  | marker urgent => exact .refl s
  | reply dest payload restart =>
    unfold reportLeft
    dsimp only
    split_ifs
    exacts [restartReplyGone_alike s, .refl s]
  | stream dest payload final =>
    unfold reportLeft streamFrameEnded
    dsimp only
    split
    exacts [.refl s, .of_blocks rfl rfl rfl rfl rfl]

theorem removeAttempted_alike (k : EntryKind) (heard : Bool) (s : State) : Alike s (removeAttempted k heard s) := by
  unfold removeAttempted
  split
  · exact .refl s
  · exact (setLine_alike s _).trans (reportLeft_alike _ _ _)

theorem emptyForListenOnly_alike (s : State) : Alike s (emptyForListenOnly s) := by
  unfold emptyForListenOnly
  split_ifs
  · exact (restartReplyGone_alike s).trans (setCommands_alike _ _ _)
  · exact setCommands_alike s _ _

theorem startCoolDown_alike (n : Nat) (s : State) : Alike s (startCoolDown n s) := setLine_alike s _

theorem setMode_alike (m : LineMode) (s : State) : Alike s (setMode m s) := setLine_alike s _

/-- The two entries to Listen-only from Normal (R71, R73). -/
theorem listenOnly_kept (k : Key) (n : Nat) (s : State) :
    Kept s (startCoolDown n (emptyForListenOnly (raiseFault k none (setMode .listenOnly s)))) :=
  ((setMode_alike _ s).kept.trans (raiseFault_kept k none _)).trans
    ((emptyForListenOnly_alike _).trans (startCoolDown_alike n _)).kept

theorem probeFailed_kept (s : State) : Kept s (probeFailed s) :=
  (((setMode_alike _ s).trans (startCoolDown_alike _ _)).kept.trans (raiseFault_kept _ _ _)).trans
    (emptyForListenOnly_alike _).kept

theorem duplicateAddress_kept (s : State) : Kept s (duplicateAddress s) := by
  unfold duplicateAddress
  split
  · exact listenOnly_kept _ _ s
  · exact (((setMode_alike _ s).trans (emptyForListenOnly_alike _)).trans (startCoolDown_alike _ _)).kept.trans
      (raiseFault_kept _ _ _)
  · exact raiseFault_kept _ _ s

theorem recordBeacon_kept (heard : Bool) (s : State) : Kept s (recordBeacon heard s) := by
  unfold recordBeacon
  dsimp only
  split_ifs
  · exact ((setLine_alike s _).trans (clearRecord_alike _ _)).kept
  · exact (setLine_alike s _).kept.trans (raiseFault_kept _ _ _)
  · exact (setLine_alike s _).kept

theorem settle_kept (a : Attempt) (queued : Bool) (s : State) : Kept s (settle a queued s) := by
  have removed (u : State) : Kept u (if queued then removeAttempted a.owner false u else u) := by
    split_ifs
    exacts [(removeAttempted_alike _ _ u).kept, .refl u]
  have mode (u : State) : Kept u
      (if a.probe && u.lc.mode == .probing then probeFailed u
      else if u.lc.mode == .normal && decide (Config.errorLimit ≤ u.lc.txErrors) then enterListenOnly u
      else u) := by
    split_ifs
    exacts [probeFailed_kept u, listenOnly_kept _ _ u, .refl u]
  unfold settle
  dsimp only
  split
  · exact ((setLine_alike s _).trans (setLine_alike _ _)).kept
  · exact ((((setLine_alike s _).trans (setLine_alike _ _)).kept.trans (removed _)).trans (mode _)).trans
      (setLine_alike _ _).kept

/-! ## Frames received -/

theorem appendOutcome_kept (o : LineOutcome) (s : State) : Kept s (appendOutcome o s) := by
  unfold appendOutcome
  dsimp only
  split_ifs
  · exact (setLine_alike s _).kept.trans (raiseFault_kept _ _ _)
  · exact ((setLine_alike s _).trans (clearRecord_alike _ _)).kept
  · exact (setLine_alike s _).kept

theorem offer_kept (f : Frame) (s : State) : Kept s (offer f s) := by
  unfold offer
  split_ifs
  · exact (setLine_alike s _).kept
  · exact (raiseFault_kept _ _ s).trans (clearRecord_alike _ _).kept
  · exact .refl s

theorem checkTwin_kept (f : Frame) (s : State) : Kept s (checkTwin f s) := by
  unfold checkTwin
  split_ifs
  exacts [duplicateAddress_kept s, .refl s]

theorem takeFrame_kept (f : Frame) (noisy othersHold : Bool) (s : State) : Kept s (takeFrame f noisy othersHold s) :=
  (((appendOutcome_kept _ s).trans (checkTwin_kept f _)).trans (offer_kept f _)).trans
    ((setLine_alike _ _).trans (setLine_alike _ _)).kept

theorem takeBadFrame_kept (s : State) : Kept s (takeBadFrame s) :=
  (appendOutcome_kept _ s).trans ((setLine_alike _ _).trans (setLine_alike _ _)).kept

theorem takeRest_kept (f : Frame) (othersHold : Bool) (s : State) : Kept s (takeRest f othersHold s) := by
  unfold takeRest
  dsimp only
  split_ifs
  · exact ((duplicateAddress_kept s).trans (offer_kept f _)).trans ((setLine_alike _ _).trans (setLine_alike _ _)).kept
  · exact ((setLine_alike s _).trans (setLine_alike _ _)).kept

theorem closeFrame_alike (s : State) : Alike s (closeFrame s) := by
  unfold closeFrame
  split
  case h_3 => exact setLine_alike s _
  all_goals exact .refl s

theorem receiveFrame_kept (line : List Sample) (othersHold : Bool) (s : State) :
    Kept s (receiveFrame line othersHold s) := by
  unfold receiveFrame
  split
  exacts [.refl s, .refl s, takeBadFrame_kept s, takeFrame_kept _ _ _ s]

theorem receiveRest_kept (line : List Sample) (othersHold : Bool) (s : State) :
    Kept s (receiveRest line othersHold s) := by
  unfold receiveRest
  split
  · exact .refl s
  · exact .refl s
  · exact (((setLine_alike s _).trans (setLine_alike _ _)).trans (closeFrame_alike _)).kept
  · exact (takeRest_kept _ _ s).trans (closeFrame_alike _).kept

theorem clearNbl_alike (e : Entry) (s : State) : Alike s (clearNbl e s) := by
  unfold clearNbl
  split_ifs
  exacts [clearRecord_alike _ s, .refl s]

theorem setTable_alike (s : State) (nt : List Entry) : Alike s { s with nt := nt } := .of_blocks rfl rfl rfl rfl rfl

theorem applyBeacon_alike (address : Nat) (b : BeaconContent) (s : State) : Alike s (applyBeacon address b s) := by
  unfold applyBeacon
  split
  · exact (setTable_alike s _).trans (clearNbl_alike _ _)
  · split_ifs
    · exact setTable_alike s _
    · split
      · exact .refl s
      · exact (setTable_alike s _).trans (clearNbl_alike _ _)

/-! ## Commands handed over -/

theorem clearSlotTrip_carried (s : State) (k : Slot) :
    Carried s (clearSlotTrip s k) ∧ (s.budgetStands → (clearSlotTrip s k).budgetStands) := by
  unfold clearSlotTrip
  split_ifs
  · exact ⟨.refl s, id⟩
  · exact ⟨(setTrip_carried s k .clear _).trans ((clearRecord_alike _ _).trans (clearRecord_alike _ _)).kept.toCarried,
      id⟩

theorem clearSlotTrips_carried (l : List Slot) (s : State) :
    Carried s (l.foldl clearSlotTrip s) ∧ (s.budgetStands → (l.foldl clearSlotTrip s).budgetStands) := by
  induction l generalizing s with
  | nil => exact ⟨.refl s, id⟩
  | cons k l ih =>
    obtain ⟨first, budget⟩ := clearSlotTrip_carried s k
    obtain ⟨rest, budget'⟩ := ih (clearSlotTrip s k)
    exact ⟨first.trans rest, fun b => budget' (budget b)⟩

theorem clearAntenna_alike (s : State) : Alike s (clearAntenna s) := by
  unfold clearAntenna
  split_ifs
  exacts [(setMonitor_alike s _).trans (clearRecord_alike _ _), .refl s]

theorem clearTarget_carried (target : Nat) (s : State) :
    Carried s (clearTarget target s) ∧ (s.budgetStands → (clearTarget target s).budgetStands) := by
  have antenna (u : State) : Carried u (clearAntenna u) ∧ (u.budgetStands → (clearAntenna u).budgetStands) :=
    ⟨(clearAntenna_alike u).kept.toCarried, (clearAntenna_alike u).kept.budget⟩
  unfold clearTarget
  split
  · obtain ⟨slots, budget⟩ := clearSlotTrips_carried Slot.all s
    exact ⟨slots.trans (antenna _).1, fun b => (antenna _).2 (budget b)⟩
  · split
    · exact clearSlotTrip_carried s _
    · split_ifs
      exacts [antenna s, ⟨.refl s, id⟩]

@[simp] theorem accept_state (data : List Byte) (s : State) : (accept data s).state = s := rfl
@[simp] theorem reject_state (status : Status) (s : State) : (reject status s).state = s := rfl

theorem answerClearTrip_kept (args : List Byte) (s : State) : Kept s (answerClearTrip args s).state := by
  unfold answerClearTrip
  split_ifs
  · exact .refl s
  · obtain ⟨carried, budget⟩ := clearTarget_carried (byteAt args 0) s
    rw [accept_state]
    exact (Settled.of_pass carried budget (.refl _)).kept
  · exact .refl s

theorem answerRestore_kept (s : State) : Kept s (answerRestore s).state := by
  unfold answerRestore
  split_ifs
  exacts [.refl s, (enterJoining_settled s).kept, .refl s]

theorem answerRestart_kept (s : State) : Kept s (answerRestart s).state := by
  unfold answerRestart
  split_ifs with _ none
  · exact (setControl_alike s { s.nc with restart := .pending, restartDue := false } rfl rfl (by simp [none])).kept
  · exact .refl s
  · exact .refl s

theorem answerAckFaults_kept (args : List Byte) (s : State) : Kept s (answerAckFaults args s).state := by
  unfold answerAckFaults
  split_ifs
  · exact .refl s
  · exact (Alike.of_blocks (s := s) (t := { s with fr := s.fr.acknowledge (wordAt args 0) }) rfl rfl rfl rfl rfl).kept

theorem answerDump_kept (f : Frame) (s : State) : Kept s (answerDump f s).state := by
  unfold answerDump
  dsimp only
  split_ifs <;> exact .refl s

theorem answerOf_kept (f : Frame) (s : State) : Kept s (answerOf f s).state := by
  unfold answerOf
  split_ifs
  exacts [.refl s, answerAckFaults_kept _ s, answerClearTrip_kept _ s, answerRestore_kept s, answerRestart_kept s,
    answerDump_kept f s, .refl s]

theorem offerReply_alike (f : Frame) (a : Answer) : Alike a.state (offerReply f a) := by
  unfold offerReply
  dsimp only
  split_ifs
  exacts [restartReplyGone_alike _, .refl _, .of_blocks rfl rfl rfl rfl rfl]

theorem takeCommand_kept {f : Frame} {answer : State → Answer} {s : State} (h : Kept s (answer s).state) :
    Kept s (takeCommand f answer s) := by
  unfold takeCommand
  split_ifs
  · exact .refl s
  · exact (offerReply_alike f (reject .notAllowed s)).kept
  · exact h.trans (offerReply_alike f _).kept

theorem handOverCode_kept (code : Nat) {answer : Frame → State → Answer}
    (h : ∀ f u, Kept u (answer f u).state) (s : State) : Kept s (handOverCode code answer s) := by
  unfold handOverCode
  split
  · exact .refl s
  · split_ifs
    exacts [(setLine_alike s _).kept.trans (takeCommand_kept (h _ _)), .refl s]

end Sys2Proof.Machine
end

section
/-! SUPPORT. The beginning of a soft restart: the level 0 frames (R24), the Active records Cleared (R153), and every
block's values (R166). -/

namespace Sys2Proof.Machine

/-! ## The level 0 frames of a soft restart -/

theorem quietLevel_idle {ca : Allocator} {k : Slot} (h : (ca.slots.get k).lastSent = 0) : quietLevel ca k = ca :=
  if_pos h

theorem quietLevel_sends {ca : Allocator} {k : Slot} (h : (ca.slots.get k).lastSent ≠ 0) :
    quietLevel ca k = ca.sendLevel k 0 := if_neg h

@[simp] theorem quietLevel_budget (ca : Allocator) (k : Slot) : (quietLevel ca k).budget = ca.budget := by
  unfold quietLevel
  split_ifs <;> simp

theorem quietLevel_slot (ca : Allocator) (k j : Slot) :
    (quietLevel ca k).slots.get j =
      { ca.slots.get j with lastSent := if j = k then 0 else (ca.slots.get j).lastSent } := by
  by_cases h : (ca.slots.get k).lastSent = 0
  · rw [quietLevel_idle h]
    split_ifs with hj
    · subst hj
      rw [← h]
    · rfl
  · rw [quietLevel_sends h, sendLevel_slot]
    split_ifs <;> rfl

theorem quietLevel_portSound {ca : Allocator} (k : Slot) (h : ca.portSound) : (quietLevel ca k).portSound := by
  by_cases hz : (ca.slots.get k).lastSent = 0
  · rwa [quietLevel_idle hz]
  · rw [quietLevel_sends hz]
    exact sendLevel_portSound h k 0

theorem quietLevel_framesFor_other (ca : Allocator) {k j : Slot} (h : k ≠ j) :
    (quietLevel ca k).framesFor j = ca.framesFor j := by
  by_cases hz : (ca.slots.get k).lastSent = 0
  · rw [quietLevel_idle hz]
  · rw [quietLevel_sends hz, sendLevel_others _ _ _ _ h]

theorem quietLevels_budget (l : List Slot) (ca : Allocator) : (l.foldl quietLevel ca).budget = ca.budget := by
  induction l generalizing ca with
  | nil => rfl
  | cons k l ih => rw [List.foldl_cons, ih, quietLevel_budget]

theorem quietLevels_slot (l : List Slot) (ca : Allocator) (j : Slot) :
    (l.foldl quietLevel ca).slots.get j =
      { ca.slots.get j with lastSent := if j ∈ l then 0 else (ca.slots.get j).lastSent } := by
  induction l generalizing ca with
  | nil => simp
  | cons k l ih =>
    rw [List.foldl_cons, ih, quietLevel_slot]
    by_cases hj : j = k <;> simp [hj]

theorem quietLevels_portSound (l : List Slot) {ca : Allocator} (h : ca.portSound) :
    (l.foldl quietLevel ca).portSound := by
  induction l generalizing ca with
  | nil => exact h
  | cons k l ih => exact ih (quietLevel_portSound k h)

/-- A slot whose last-sent level is 0 is handed no frame (R24). -/
theorem quietLevels_framesFor_idle {l : List Slot} {ca : Allocator} {j : Slot}
    (h : j ∉ l ∨ (ca.slots.get j).lastSent = 0) : (l.foldl quietLevel ca).framesFor j = ca.framesFor j := by
  induction l generalizing ca with
  | nil => rfl
  | cons k l ih =>
    rw [List.foldl_cons]
    by_cases hj : k = j
    · subst hj
      have hz : (ca.slots.get k).lastSent = 0 := h.resolve_left (by simp)
      rw [quietLevel_idle hz]
      exact ih (.inr hz)
    · rw [ih, quietLevel_framesFor_other ca hj]
      rw [quietLevel_slot]
      exact h.imp (fun hn hm => hn (List.mem_cons_of_mem _ hm)) fun hz => by simp [hz]

/-- A slot whose last-sent level is not 0 is handed a level 0 frame (R24). -/
theorem quietLevels_framesFor_last {l : List Slot} {ca : Allocator} {j : Slot} (mem : j ∈ l)
    (h : (ca.slots.get j).lastSent ≠ 0) : ((l.foldl quietLevel ca).framesFor j).getLast? = some ⟨j, 0⟩ := by
  induction l generalizing ca with
  | nil => simp at mem
  | cons k l ih =>
    rw [List.foldl_cons]
    by_cases hj : j = k
    · subst hj
      have sent : ((quietLevel ca j).slots.get j).lastSent = 0 := by rw [quietLevel_slot, if_pos rfl]
      rw [quietLevels_framesFor_idle (.inr sent), quietLevel_sends h, sendLevel_last]
    · refine ih (List.mem_of_ne_of_mem hj mem) ?_
      rwa [quietLevel_slot, if_neg hj]

/-- The slots' records put to the values of a soft restart's beginning (R5). -/
def Allocator.wiped (ca : Allocator) : Allocator := { ca with slots := ca.slots.map SlotRecord.restarted }

theorem restarted_eq (ca : Allocator) : ca.restarted = (Slot.all.foldl quietLevel ca).wiped := rfl

theorem wiped_budget (ca : Allocator) : ca.wiped.budget = ca.budget := rfl

theorem wiped_framesFor (ca : Allocator) (k : Slot) : ca.wiped.framesFor k = ca.framesFor k := rfl

theorem wiped_slot (ca : Allocator) (k : Slot) : ca.wiped.slots.get k = (ca.slots.get k).restarted := by
  simp [Allocator.wiped]

theorem wiped_portSound {ca : Allocator} (h : ca.portSound) : ca.wiped.portSound :=
  portSound_of_samePort (ca := ca) rfl rfl rfl (fun k => by rw [wiped_slot]; rfl) h

/-- A slot's record at the beginning of a soft restart (R5, R24). -/
theorem restarted_slot (ca : Allocator) (k : Slot) :
    ca.restarted.slots.get k =
      { ca.slots.get k with
        load := 0, stale := true, full := false, bias := 0, fill := 0, trip := .clear, request := 0, grant := 0,
        lastSent := 0, off := false } := by
  rw [restarted_eq, wiped_slot, quietLevels_slot, if_pos k.mem_all]
  rfl

theorem restarted_budget (ca : Allocator) : ca.restarted.budget = ca.budget := by
  rw [restarted_eq, wiped_budget, quietLevels_budget]

theorem restarted_portSound {ca : Allocator} (h : ca.portSound) : ca.restarted.portSound := by
  rw [restarted_eq]
  exact wiped_portSound (quietLevels_portSound _ h)

theorem restarted_framesFor_idle {ca : Allocator} {k : Slot} (h : (ca.slots.get k).lastSent = 0) :
    ca.restarted.framesFor k = ca.framesFor k := by
  rw [restarted_eq, wiped_framesFor, quietLevels_framesFor_idle (.inr h)]

theorem restarted_framesFor_last {ca : Allocator} {k : Slot} (h : (ca.slots.get k).lastSent ≠ 0) :
    (ca.restarted.framesFor k).getLast? = some ⟨k, 0⟩ := by
  rw [restarted_eq, wiped_framesFor, quietLevels_framesFor_last k.mem_all h]

/-! ## The Active records Cleared -/

/-- The log once every Active record is Cleared (R153): the acknowledged ones leave it, the others stay in place. -/
theorem clearAll_log (fr : Recorder) (now : Nat) :
    (fr.clearAll now).log =
      (fr.log.filter fun r => !(r.active && r.acked)).map fun r =>
        if r.active then { r with active := false, cleared := some (now / 1000) } else r := by
  show fr.log.filterMap (fun r => if r.active then r.ended now else some r) = _
  generalize fr.log = log
  induction log with
  | nil => rfl
  | cons r rest ih =>
    rw [List.filterMap_cons, ih]
    cases ha : r.active <;> cases hk : r.acked <;> simp [Record.ended, ha, hk]

theorem clearAll_inactive (fr : Recorder) (now : Nat) : ∀ r ∈ (fr.clearAll now).log, r.active = false := by
  intro r hr
  rw [clearAll_log] at hr
  obtain ⟨x, -, rfl⟩ := List.mem_map.mp hr
  split_ifs with h
  · rfl
  · simpa using h

theorem clearAll_faultLine (fr : Recorder) (now : Nat) : (fr.clearAll now).faultLine = false := by
  show (fr.clearAll now).log.any (Record.asserts _) = false
  refine List.any_eq_false.mpr fun r hr => ?_
  simp [Record.asserts, clearAll_inactive fr now r hr]

/-- A key leaves the log exactly where its record was Active and acknowledged (R153). -/
theorem clearAll_keys (fr : Recorder) (now : Nat) (k : Key) :
    k ∉ (fr.clearAll now).log.map Record.key ↔ ∀ r ∈ fr.log, r.key = k → r.active = true ∧ r.acked = true := by
  have key (r : Record) :
      (if r.active then { r with active := false, cleared := some (now / 1000) } else r).key = r.key := by
    split_ifs <;> rfl
  rw [clearAll_log, List.map_map]
  simp only [List.mem_map, List.mem_filter, Function.comp_apply, key, not_exists, not_and, Bool.not_eq_true',
    Bool.and_eq_false_iff, and_imp]
  constructor
  · intro h r hr hk
    by_contra kept
    exact h r hr (by revert kept; cases r.active <;> cases r.acked <;> simp) hk
  · intro h r hr kept hk
    obtain ⟨ha, hc⟩ := h r hr hk
    simp [ha, hc] at kept

/-! ## SOFT_RESTART_BEGIN -/

/-- During a soft restart no slot participates, so the power law stands where every level and off flag is down. -/
theorem powerLaw_restarting {s : State} (restarting : s.nc.restart = .inProgress)
    (down : ∀ k, (s.ca.slots.get k).request = 0 ∧ (s.ca.slots.get k).grant = 0 ∧
      (s.ca.slots.get k).lastSent = 0 ∧ (s.ca.slots.get k).off = false)
    (budget : s.budgetStands) : PowerLaw s := by
  have quiet (k : Slot) : s.participates k = false := by simp [State.participates, State.restarting, restarting]
  have off (k : Slot) : s.offNow k = false := by simp [State.offNow, State.restarting, restarting]
  have grants : (s.ca.slots.map SlotRecord.grant).sum = 0 := by
    simp only [Six.sum_slots, Six.get_map, (down _).2.1]
  refine ⟨⟨fun k => ?_, fun k => ?_, fun k => ?_, grants ▸ Nat.zero_le _⟩, fun k => ?_, budget⟩ <;>
    obtain ⟨request, grant, lastSent, offDown⟩ := down k
  · rw [quiet, request]
    rfl
  · rw [grant]
    exact Nat.zero_le _
  · rw [lastSent, grant]
  · rw [off, offDown]

theorem beginRestart_ca (s : State) : (beginRestart s).ca = s.ca.restarted := rfl

theorem beginRestart_kept (s : State) : Kept s (beginRestart s) where
  image k := by
    rw [beginRestart_ca, restarted_slot]
    rfl
  trims k := .inr (by
    rw [beginRestart_ca, restarted_slot]
    exact ⟨rfl, rfl⟩)
  port p := by
    rw [beginRestart_ca]
    exact restarted_portSound p
  round := .inr rfl
  setting := rfl
  mask := rfl
  budget := budgetStands_of_same (by rw [beginRestart_ca, restarted_budget]) rfl rfl
  power p := by
    refine powerLaw_restarting rfl (fun k => ?_)
      (budgetStands_of_same (s := s) (by rw [beginRestart_ca, restarted_budget]) rfl rfl p.2.2)
    rw [beginRestart_ca, restarted_slot]
    exact ⟨rfl, rfl, rfl, rfl⟩

theorem sendingFrame_iff (lc : Line) : lc.sendingFrame = true ↔ ∃ a, lc.phase = .sending a := by
  unfold Line.sendingFrame
  cases lc.phase <;> simp

/-- Settles O25, block by block. -/
theorem softRestartSetsBlocks : Obligations.SoftRestartSetsBlocks := by
  intro s acts
  have runs : exec .softRestartBegin s = .next
      (if s.nc.restart = .pending ∧ s.nc.restartDue ∧ s.lc.sendingFrame = false then beginRestart s else s) :=
    unlessHeld_acts acts _
  refine ⟨fun pending due quiet => ⟨beginRestart s, ?_, rfl, rfl, rfl, rfl, rfl, rfl, rfl, fun k => ?_, ?_,
    fun port => ?_, fun k => ⟨fun h => ?_, fun h => ?_⟩, clearAll_keys s.fr s.now,
    clearAll_log s.fr s.now, clearAll_inactive s.fr s.now, clearAll_faultLine s.fr s.now, rfl, rfl, rfl, rfl⟩,
    fun waits => ?_⟩
  · have notSending : s.lc.sendingFrame = false := by
      rw [Bool.eq_false_iff, ne_eq, sendingFrame_iff]
      rintro ⟨a, ha⟩
      exact quiet a ha
    rw [runs, if_pos ⟨pending, due, notSending⟩]
  · rw [beginRestart_ca, restarted_slot]
  · rw [beginRestart_ca, restarted_budget]
  · rw [levelPortLaw_iff, beginRestart_ca]
    exact restarted_portSound port
  · rw [beginRestart_ca, restarted_framesFor_idle h]
  · rw [beginRestart_ca, restarted_framesFor_last h]
  · rw [runs, if_neg]
    rintro ⟨pending, due, quiet⟩
    rcases waits with h | h | h
    · exact h pending
    · simp [h] at due
    · simp [(sendingFrame_iff s.lc).mpr h] at quiet

end Sys2Proof.Machine
end

section
/-! SUPPORT. The setting image as loaded (R2, R10, R30, R44, R60, R92, R114, R147, R159, R183). -/

namespace Sys2Proof.Machine

/-! ## Clamps -/

/-- A loaded value is the field where that lies within the range, else the nearer end of the range. -/
def Taken (low high field loaded : Int) : Prop :=
  (low ≤ field → field ≤ high → loaded = field) ∧ (field < low → loaded = low) ∧ (high < field → loaded = high)

theorem clampNat_bounds {lo hi : Nat} (h : lo ≤ hi) (v : Nat) : lo ≤ clampNat lo hi v ∧ clampNat lo hi v ≤ hi := by
  unfold clampNat
  omega

theorem clampInt_bounds {lo hi : Int} (h : lo ≤ hi) (v : Int) : lo ≤ clampInt lo hi v ∧ clampInt lo hi v ≤ hi := by
  unfold clampInt
  omega

theorem taken_clampNat {lo hi : Nat} (h : lo ≤ hi) (v : Nat) : Taken lo hi v (clampNat lo hi v : Nat) := by
  unfold Taken clampNat
  omega

theorem taken_clampInt {lo hi : Int} (h : lo ≤ hi) (v : Int) : Taken lo hi v (clampInt lo hi v) := by
  unfold Taken clampInt
  omega

theorem taken_min (hi v : Nat) : Taken 0 hi v (min hi v : Nat) := by
  unfold Taken
  omega

/-- A value is also taken by a clamp whose upper end it never passes. -/
theorem taken_max {hi v : Nat} (lo : Nat) (h : v ≤ hi) : Taken lo hi v (max lo v : Nat) := by
  unfold Taken
  omega

theorem taken_critical {derate field : Int} (h : derate ≤ 121) :
    Taken (derate + 4) 125 field (min 125 (max (derate + 4) field)) := by
  unfold Taken
  omega

theorem byteAt_le (bytes : List Byte) (i : Nat) : byteAt bytes i ≤ 255 := by
  have := (bytes.getD i 0).isLt
  unfold byteAt
  omega

theorem wordAt_lt (bytes : List Byte) (i : Nat) : wordAt bytes i < 65536 := by
  have := byteAt_le bytes i
  have := byteAt_le bytes (i + 1)
  unfold wordAt
  omega

/-! ## The trip filter, the temperatures and the slot entries -/

theorem tripFilterOf_mem (v : Nat) : tripFilterOf v ∈ [1, 2, 4, 8] := by
  unfold tripFilterOf
  split_ifs <;> simp

/-- The trip filter is the largest of 1, 2, 4 and 8 that does not exceed the byte, and 1 for 0 (R44). -/
theorem tripFilterOf_largest (v : Nat) :
    (∀ w ∈ [1, 2, 4, 8], w ≤ v → w ≤ tripFilterOf v) ∧ tripFilterOf v ≤ max 1 v := by
  unfold tripFilterOf
  refine ⟨fun w hw hv => ?_, by split_ifs <;> omega⟩
  simp only [List.mem_cons, List.not_mem_nil, or_false] at hw
  split_ifs <;> omega

theorem settingOf_tCrit (image : List Byte) :
    (settingOf image).tCrit = min 125 (max ((settingOf image).tDerate + 4) (signedAt image 11)) := rfl

theorem settingOf_tDerate_bounds (image : List Byte) :
    20 ≤ (settingOf image).tDerate ∧ (settingOf image).tDerate ≤ 121 :=
  clampInt_bounds (by decide) _

theorem settingOf_tCrit_bounds (image : List Byte) :
    (settingOf image).tDerate + 4 ≤ (settingOf image).tCrit ∧ (settingOf image).tCrit ≤ 125 := by
  have := (settingOf_tDerate_bounds image).2
  rw [settingOf_tCrit]
  omega

theorem settingOf_slot (image : List Byte) (k : Slot) : (settingOf image).slots.get k = slotSettingOf image k := by
  simp [settingOf]

/-- The ranges of a slot entry as loaded (R2). -/
theorem slotSettingOf_bounds (image : List Byte) (k : Slot) :
    (slotSettingOf image k).operator ≤ 15 ∧ (slotSettingOf image k).sector ≤ 255 ∧
    (slotSettingOf image k).floor ≤ (slotSettingOf image k).nominal ∧
    (slotSettingOf image k).nominal ≤ (slotSettingOf image k).maximum ∧
    (slotSettingOf image k).maximum ≤ 10000 ∧ 16 ≤ (slotSettingOf image k).riseFull ∧
    (slotSettingOf image k).riseFull ≤ 255 := by
  have rise := byteAt_le image (31 + 9 * (k.number - 1) + 8)
  refine ⟨?_, byteAt_le _ _, Nat.min_le_left _ _, Nat.min_le_left _ _, Nat.min_le_left _ _, Nat.le_max_left _ _,
    Nat.max_le.mpr ⟨by decide, rise⟩⟩
  unfold slotSettingOf
  dsimp only
  split_ifs <;> omega

/-- The bounds that an image gives bias and fill (R114). -/
theorem settingOf_trim_bounds (image : List Byte) :
    (settingOf image).biasMax ≤ 12 ∧ (settingOf image).fillMax ≤ 6 := ⟨Nat.min_le_left _ _, Nat.min_le_left _ _⟩

/-- Settles O16, clamp by clamp. -/
theorem loadedSettingWithinRanges : Obligations.LoadedSettingWithinRanges := by
  refine ⟨fun image => ?_, fun image => ?_⟩
  · intro g
    have tDerate := settingOf_tDerate_bounds image
    have tCrit := settingOf_tCrit_bounds image
    refine ⟨clampNat_bounds (by decide) _, Nat.min_le_left _ _, Nat.min_le_left _ _, clampNat_bounds (by decide) _,
      clampNat_bounds (by decide) _, tDerate, tCrit, clampNat_bounds (by decide) _, clampNat_bounds (by decide) _,
      tripFilterOf_mem _, Nat.min_le_left _ _, clampNat_bounds (by decide) _, clampNat_bounds (by decide) _,
      clampNat_bounds (by decide) _, Nat.min_le_left _ _, Nat.min_le_left _ _, clampNat_bounds (by decide) _,
      clampNat_bounds (by decide) _, Nat.min_le_left _ _, clampNat_bounds (by decide) _, fun k => ?_⟩
    rw [settingOf_slot]
    exact slotSettingOf_bounds image k
  · intro g taken
    have mask : g.mask.toNat = wordAt image 29 := by
      show (BitVec.ofNat 16 (wordAt image 29)).toNat = _
      rw [BitVec.toNat_ofNat, Nat.mod_eq_of_lt (wordAt_lt image 29)]
    obtain ⟨filterLargest, filterWithin⟩ := tripFilterOf_largest (byteAt image 14)
    refine ⟨taken_clampNat (by decide) _, taken_min _ _, taken_min _ _, taken_clampNat (by decide) _,
      taken_clampNat (by decide) _, taken_clampInt (by decide) _, taken_critical (settingOf_tDerate_bounds image).2,
      taken_clampNat (by decide) _, taken_clampNat (by decide) _, taken_min _ _, taken_clampNat (by decide) _,
      taken_clampNat (by decide) _, taken_clampNat (by decide) _, taken_min _ _, taken_min _ _,
      taken_clampNat (by decide) _, taken_clampNat (by decide) _, taken_min _ _, taken_clampNat (by decide) _, mask,
      filterLargest, filterWithin, fun h => ?_, fun h => ?_, fun h0 h2 => ?_, fun k => ?_⟩
    · exact if_pos h
    · show rateOf _ = _
      rw [rateOf, h]
      rfl
    · show rateOf _ = _
      rw [rateOf, if_neg h0, if_neg h2]
    · intro e at0
      have entry : e = slotSettingOf image k := settingOf_slot image k
      clear_value e
      subst entry
      refine ⟨fun h => if_pos h, fun h => if_neg (Nat.not_le.mpr h), rfl, taken_min _ _, taken_min _ _, taken_min _ _,
        taken_max 16 (byteAt_le _ _)⟩

end Sys2Proof.Machine
end

section
/-! SUPPORT. The commands that keep the laws, each by the work it does. -/

namespace Sys2Proof.Machine

/-! ## The commands that keep the laws -/

/-- A command under the reset gate that leaves the state as it is, or has an effect that keeps the laws. -/
theorem kept_of_unlessHeld {s u t : State} (h : unlessHeld s u = .next t) (k : Kept s u) : Kept s t := by
  rcases unlessHeld_next s u with hn | hn <;> rw [hn] at h <;> obtain rfl := Host.Outcome.next.inj h
  exacts [.refl s, k]

theorem levelFrameSent_kept {s t : State} (h : exec .levelFrameSent s = .next t) : Kept s t := by
  have sent : Alike s
      { s with ca := { s.ca.startLevel s.ca.levelQueue.head? with levelQueue := s.ca.levelQueue.tail } } :=
    ⟨fun _ => rfl, rfl, startLevel_portSound, rfl, rfl, rfl, rfl, rfl, rfl, rfl⟩
  exact kept_of_unlessHeld h sent.kept

theorem measurementFrame_kept {bits : List Bool} {s t : State} (h : exec (.measurementFrame bits) s = .next t) :
    Kept s t := by
  refine kept_of_unlessHeld h ?_
  split
  exacts [.refl s, goodFrame_kept _ s]

theorem sampleTimerExpiry_kept {s t : State} (h : exec .sampleTimerExpiry s = .next t) : Kept s t := by
  refine kept_of_unlessHeld h ?_
  split
  · exact .refl s
  · exact .refl s
  · rename_i due _
    have stale : Alike (s.reach due)
        { s.reach due with ca := { s.ca with slots := s.ca.slots.map fun r => { r with stale := true } } } :=
      setLoads_alike (s.reach due) _ fun k => rfl
    have expired (u : State) : Alike u { u with mi := { u.mi with sampleTimer := .expired } } :=
      setIntake_alike u _ rfl rfl
    exact (((reach_alike due s).trans stale).kept.trans (raiseFault_kept _ _ _)).trans (expired _).kept

theorem release_kept (k : Slot) (s : State) : Kept s (release k s) := by
  unfold release
  refine (Settled.of_pass ?_ ?_ (.refl _)).kept
  · exact (setTrip_carried s k .clear _).trans (clearRecord_alike _ _).kept.toCarried
  · exact budgetStands_of_same (s := s) rfl rfl rfl

theorem holdOffExpiry_kept {k : Slot} {s t : State} (h : exec (.holdOffExpiry k) s = .next t) : Kept s t := by
  refine kept_of_unlessHeld h ?_
  split
  exacts [.refl s, (reach_alike _ s).kept.trans (release_kept k _)]

theorem cleanRunExpiry_kept {k : Slot} {s t : State} (h : exec (.cleanRunExpiry k) s = .next t) : Kept s t := by
  refine kept_of_unlessHeld h ?_
  split
  exacts [.refl s, ((reach_alike _ s).trans (setMonitor_alike _ _)).kept]

theorem joinTimerExpiry_kept {s t : State} (h : exec .joinTimerExpiry s = .next t) : Kept s t := by
  refine kept_of_unlessHeld h ?_
  split
  exacts [.refl s, (reach_alike _ s).kept.trans (enterServing_settled _).kept]

theorem staleDeadline_kept {a : Nat} {s t : State} (h : exec (.staleDeadline a) s = .next t) : Kept s t := by
  refine kept_of_unlessHeld h ?_
  split
  · exact .refl s
  · split_ifs
    exacts [((reach_alike _ s).trans (setTable_alike _ _)).kept, .refl s]

theorem silentDeadline_kept {a : Nat} {s t : State} (h : exec (.silentDeadline a) s = .next t) : Kept s t := by
  refine kept_of_unlessHeld h ?_
  split
  · exact .refl s
  · split_ifs
    exacts [.refl s, ((reach_alike _ s).trans (setTable_alike _ _)).kept.trans (raiseFault_kept _ _ _)]

theorem goneDeadline_kept {a : Nat} {s t : State} (h : exec (.goneDeadline a) s = .next t) : Kept s t := by
  refine kept_of_unlessHeld h ?_
  split
  · exact .refl s
  · dsimp only
    split_ifs
    exacts [((reach_alike _ s).trans (setTable_alike _ _)).kept,
      ((reach_alike _ s).trans ((setTable_alike _ _).trans (clearNbl_alike _ _))).kept, .refl s]

theorem beaconTimerExpiry_kept {s t : State} (h : exec .beaconTimerExpiry s = .next t) : Kept s t := by
  refine kept_of_unlessHeld h ?_
  split
  exacts [.refl s, ((reach_alike _ s).trans (setLine_alike _ _)).kept]

theorem coolDownExpiry_kept {s t : State} (h : exec .coolDownExpiry s = .next t) : Kept s t := by
  refine kept_of_unlessHeld h ?_
  split
  exacts [.refl s, ((reach_alike _ s).trans (setLine_alike _ _)).kept]

theorem peerFrameReceived_kept {line : Arrival} {hold : Bool} {s t : State}
    (h : exec (.peerFrameReceived line hold) s = .next t) : Kept s t := by
  refine kept_of_unlessHeld h ?_
  split_ifs
  exacts [receiveRest_kept _ _ s, receiveFrame_kept _ _ s, (setLine_alike s _).kept, .refl s, .refl s]

theorem transmissionStart_kept {n : Nat} {s t : State} (h : exec (.transmissionStart n) s = .next t) : Kept s t := by
  have counted : Alike s (countIdle n s) := setLine_alike s _
  refine kept_of_unlessHeld h ?_
  dsimp only
  split_ifs
  · exact (counted.trans (setLine_alike _ _)).kept
  · split
    exacts [counted.kept, (counted.trans (setLine_alike _ _)).kept]
  · exact counted.kept
  · exact .refl s

theorem arbitrationLost_kept {p : Nat} {x : Sample} {s t : State} (h : exec (.arbitrationLost p x) s = .next t) :
    Kept s t := by
  refine kept_of_unlessHeld h ?_
  split
  · exact .refl s
  · split_ifs
    exacts [((setLine_alike s _).trans (setLine_alike _ _)).kept, .refl s]

theorem bitError_kept {p : Nat} {x : Sample} {ack hold : Bool} {s t : State}
    (h : exec (.bitError p x ack hold) s = .next t) : Kept s t := by
  have ended (held : Bool) (phase : TxPhase) : Alike s (setPhase phase (frameEnds held s)) :=
    (setLine_alike s _).trans (setLine_alike _ _)
  refine kept_of_unlessHeld h ?_
  split
  · exact .refl s
  · dsimp only
    split_ifs
    exacts [(ended _ _).kept.trans (recordBeacon_kept _ _), (ended _ _).kept, (ended _ _).kept, .refl s]

theorem transmitFrameEnd_kept {ack hold : Bool} {s t : State} (h : exec (.transmitFrameEnd ack hold) s = .next t) :
    Kept s t := by
  have probed (u : State) : Alike u (probeSucceeded u) :=
    (setLine_alike u _).trans ((clearRecord_alike _ _).trans (clearRecord_alike _ _))
  refine kept_of_unlessHeld h ?_
  split
  · exact .refl s
  · exact .refl s
  · exact .refl s
  · rename_i a _
    have removed : Alike s (removeAttempted a.owner ack (setPhase .quiet (countClean (frameEnds hold s)))) :=
      (((setLine_alike s _).trans (setLine_alike _ _)).trans (setLine_alike _ _)).trans (removeAttempted_alike _ _ _)
    dsimp only
    split_ifs
    exacts [((removed.trans (probed _)).kept.trans (recordBeacon_kept _ _)).trans (setLine_alike _ _).kept,
      (removed.kept.trans (recordBeacon_kept _ _)).trans (setLine_alike _ _).kept, removed.kept]

theorem bitErrorSettle_kept {n : Nat} {s t : State} (h : exec (.bitErrorSettle n) s = .next t) : Kept s t := by
  have counted : Alike s (countIdle n s) := setLine_alike s _
  refine kept_of_unlessHeld h ?_
  split
  · exact .refl s
  · exact .refl s
  · exact .refl s
  · dsimp only
    split_ifs
    exacts [counted.kept.trans (settle_kept _ _ _), counted.kept]

theorem breakDetected_kept {s t : State} (h : exec .breakDetected s = .next t) : Kept s t := by
  refine kept_of_unlessHeld h ?_
  dsimp only
  split
  exacts [(setLine_alike s _).kept, .refl s]

theorem breakEnd_kept {s t : State} (h : exec .breakEnd s = .next t) : Kept s t := by
  refine kept_of_unlessHeld h ?_
  split_ifs
  exacts [(setLine_alike s _).kept, .refl s]

theorem beaconApply_kept {s t : State} (h : exec .beaconApply s = .next t) : Kept s t := by
  refine kept_of_unlessHeld h ?_
  split
  · exact .refl s
  · split_ifs
    exacts [((applyBeacon_alike _ _ s).trans (setLine_alike _ _)).kept, (setLine_alike s _).kept, .refl s]

theorem commandHandover_kept {s t : State} (h : exec .commandHandover s = .next t) : Kept s t := by
  refine kept_of_unlessHeld h ?_
  split
  · exact .refl s
  · split_ifs
    exacts [(setLine_alike s _).kept.trans (takeCommand_kept (answerOf_kept _ _)), (setLine_alike s _).kept, .refl s]

theorem frameDrop_kept {s t : State} (h : exec .frameDrop s = .next t) : Kept s t := by
  refine kept_of_unlessHeld h ?_
  split
  · exact .refl s
  · split_ifs
    exacts [.refl s, (setLine_alike s _).kept]

theorem replyEnqueue_kept {s t : State} (h : exec .replyEnqueue s = .next t) : Kept s t := by
  refine kept_of_unlessHeld h ?_
  split
  · exact .refl s
  · split_ifs
    exacts [(setCommands_alike s _ _).kept, .refl s]

theorem streamFrameBuild_kept {s t : State} (h : exec .streamFrameBuild s = .next t) : Kept s t := by
  refine kept_of_unlessHeld h ?_
  split
  · exact .refl s
  · split_ifs
    exacts [(setCommands_alike s _ _).kept, .refl s]

theorem softRestartBegin_kept {s t : State} (h : exec .softRestartBegin s = .next t) : Kept s t := by
  refine kept_of_unlessHeld h ?_
  split_ifs
  exacts [beginRestart_kept s, .refl s]

end Sys2Proof.Machine
end

section
/-! SUPPORT. What an alarm cause does to the line (R91, R93), what a fault raised brings (R143, R149, R150), and the entry
to Withdrawn (R163). -/

namespace Sys2Proof.Machine

/-! ## Alarm causes -/

/-- The line after an alarm cause: a follow-up while the marker's beacon is under way, else a marker at priority 0
(R91). -/
def Line.alarmed (lc : Line) : Line := if lc.beaconUnderWay then { lc with followUp := true } else lc.urgentMarker

theorem alarm_restarting {s : State} (h : s.nc.restart = .inProgress) : alarm s = s := if_pos h

theorem alarm_lc {s : State} (h : s.nc.restart ≠ .inProgress) : (alarm s).lc = s.lc.alarmed := by
  rw [alarm, if_neg h]
  unfold Line.alarmed
  split_ifs <;> rfl

/-- A marker at priority 0 stands at the head of the queue (R88, R91). -/
theorem urgentMarker_eq (lc : Line) :
    lc.urgentMarker = { lc with txQueue := .marker true :: lc.txQueue.filter fun e => e.kind != .beacon } := by
  have first (q : List TxEntry) (others : ∀ e ∈ q, e.kind ≠ .beacon) :
      insertEntry (.marker true) q = .marker true :: q := by
    cases q with
    | nil => rfl
    | cons e rest =>
      have later : 0 < e.priority := by
        have := others e (List.mem_cons_self ..)
        cases e <;> simp_all [TxEntry.kind, TxEntry.priority]
      exact if_pos later
  unfold Line.urgentMarker
  rw [first _ fun e he => by simpa [TxEntry.isMarker] using (List.mem_filter.mp he).2]
  rfl

theorem alarmed_alarmed (lc : Line) : lc.alarmed.alarmed = lc.alarmed := by
  have phase : lc.alarmed.beaconUnderWay = lc.beaconUnderWay := by
    unfold Line.alarmed Line.beaconUnderWay
    split_ifs <;> rfl
  rw [Line.alarmed, phase]
  cases h : lc.beaconUnderWay with
  | true => simp [Line.alarmed, h]
  | false => simp [Line.alarmed, h, urgentMarker_eq, List.filter_filter, TxEntry.kind]

/-- Whether the off flag of an enabled slot would change (R93). -/
def State.offChanges (s : State) : Prop := ∃ k, (s.ca.slots.get k).enabled = true ∧ (s.ca.slots.get k).off ≠ s.offNow k

/-- A change of an enabled slot's off flag is an alarm cause, and no change is none (R93). -/
theorem evaluateOff_lc (s : State) :
    (s.offChanges → s.nc.restart ≠ .inProgress → (evaluateOff s).lc = s.lc.alarmed) ∧
    (¬ s.offChanges ∨ s.nc.restart = .inProgress → (evaluateOff s).lc = s.lc) := by
  have changed_iff : (Slot.all.any fun k =>
      (s.ca.slots.get k).enabled && !((s.ca.slots.get k).off == s.offNow k)) = true ↔ s.offChanges := by
    simp [State.offChanges, Slot.mem_all]
  unfold evaluateOff
  dsimp only
  refine ⟨fun changes running => ?_, fun h => ?_⟩
  · rw [if_pos (changed_iff.mpr changes), alarm_lc (by exact running)]
  · split_ifs with changes
    · rw [alarm_restarting (by exact h.resolve_left (not_not_intro (changed_iff.mp changes)))]
    · rfl

theorem evaluateOff_ca (s : State) : (evaluateOff s).ca = { s.ca with slots := (evaluateOff s).ca.slots } := by
  unfold evaluateOff
  dsimp only
  split_ifs <;> simp

/-- An alarm cause that the line has taken already is not seen in it when the off flags are evaluated. -/
theorem evaluateOff_lc_alarmed {s : State} (h : s.lc.alarmed = s.lc) : (evaluateOff s).lc = s.lc := by
  obtain ⟨changed, same⟩ := evaluateOff_lc s
  by_cases hc : s.offChanges ∧ s.nc.restart ≠ .inProgress
  · rw [changed hc.1 hc.2, h]
  · exact same (by tauto)

theorem stateChanged_lc {s : State} (h : s.nc.restart ≠ .inProgress) (alarmed : s.lc.alarmed = s.lc) :
    (stateChanged s).lc = s.lc := by
  unfold stateChanged
  rw [alarm_lc (by simpa using h), pass_lc, evaluateOff_lc_alarmed alarmed, alarmed]

/-! ## Break requests -/

/-- A break request is kept in Normal, 10 s after the last break (R76). -/
def State.breakSpaced (s : State) : Prop := s.lc.mode = .normal ∧ ∀ t ∈ s.lc.lastBreak, t + 10000 ≤ s.now

theorem breakRequest_kept_of_spaced {s : State} (h : s.breakSpaced) :
    breakRequest s = { s with lc := { s.lc with pendingBreak := true } } := if_pos h

theorem breakRequest_dropped {s : State} (h : ¬ s.breakSpaced) : breakRequest s = s := if_neg h

theorem breakRequest_lc (s : State) :
    (breakRequest s).lc = { s.lc with pendingBreak := (breakRequest s).lc.pendingBreak } := by
  by_cases h : s.breakSpaced
  · rw [breakRequest_kept_of_spaced h]
  · rw [breakRequest_dropped h]

/-! ## Entry to Withdrawn -/

/-- A slot that does not participate at a change of node state (R7, R20). -/
theorem stateChanged_slot_silent {s : State} {k : Slot} (quiet : s.participates k = false) :
    (stateChanged s).ca.slots.get k =
      { s.ca.slots.get k with request := 0, grant := 0, lastSent := 0, off := s.offNow k } := by
  rw [stateChanged, alarm_ca, pass_silent _ _ (by rw [evaluateOff_participates, quiet]), evaluateOff_slot]

/-- What the entry to Withdrawn settles before off flags and pass: the round abandoned, the join timer stopped, the trims
0 (R163). -/
def State.leavingAir (s : State) : State :=
  zeroTrims { abandonRound s with nc := { s.nc with state := some .withdrawn, joinTimer := .stopped } }

theorem enterWithdrawn_eq (s : State) : enterWithdrawn s = breakRequest (stateChanged s.leavingAir) := rfl

@[simp] theorem leavingAir_lc (s : State) : s.leavingAir.lc = s.lc := rfl
@[simp] theorem leavingAir_fr (s : State) : s.leavingAir.fr = s.fr := rfl
@[simp] theorem leavingAir_su (s : State) : s.leavingAir.su = ⟨.stopped, none⟩ := rfl
@[simp] theorem leavingAir_nc (s : State) :
    s.leavingAir.nc = { s.nc with state := some .withdrawn, joinTimer := .stopped } := rfl

theorem leavingAir_slot (s : State) (k : Slot) :
    s.leavingAir.ca.slots.get k = { s.ca.slots.get k with bias := 0, fill := 0 } := zeroTrims_slot _ k

/-- The slots in Withdrawn: no grant, no trims, every enabled slot off the air (R6, R7, R163). -/
theorem enterWithdrawn_slot {s : State} (running : s.nc.restart ≠ .inProgress) (k : Slot) :
    (enterWithdrawn s).ca.slots.get k =
      { s.ca.slots.get k with
        bias := 0, fill := 0, request := 0, grant := 0, lastSent := 0, off := (s.ca.slots.get k).enabled } := by
  rw [enterWithdrawn_eq, breakRequest_ca, stateChanged_slot_silent (by simp [State.participates, State.onAir]),
    leavingAir_slot]
  simp [State.offNow, State.restarting, leavingAir_slot, running]

theorem enterWithdrawn_nc (s : State) :
    (enterWithdrawn s).nc = { s.nc with state := some .withdrawn, joinTimer := .stopped } := by
  rw [enterWithdrawn_eq, breakRequest_nc, stateChanged_nc, leavingAir_nc]

theorem enterWithdrawn_su (s : State) : (enterWithdrawn s).su = ⟨.stopped, none⟩ := by
  rw [enterWithdrawn_eq, breakRequest_su, stateChanged_su, leavingAir_su]

theorem enterWithdrawn_lc {s : State} (running : s.nc.restart ≠ .inProgress) (alarmed : s.lc.alarmed = s.lc) :
    (enterWithdrawn s).lc = { s.lc with pendingBreak := (enterWithdrawn s).lc.pendingBreak } := by
  have changed : (stateChanged s.leavingAir).lc = s.lc := stateChanged_lc (s := s.leavingAir) running alarmed
  rw [enterWithdrawn_eq, breakRequest_lc, changed]

theorem withdraw_enters {s : State} (air : s.onAir = true) (running : s.nc.restart ≠ .inProgress) :
    withdraw s = enterWithdrawn s := by
  simp [withdraw, air, State.restarting, running]

theorem withdraw_stays {s : State} (h : s.onAir = false ∨ s.nc.restart = .inProgress) : withdraw s = s := by
  rcases h with h | h <;> simp [withdraw, State.restarting, h]

theorem withdraw_withdraw (s : State) : withdraw (withdraw s) = withdraw s := by
  by_cases h : s.onAir = false ∨ s.nc.restart = .inProgress
  · rw [withdraw_stays h, withdraw_stays h]
  · simp only [not_or, Bool.not_eq_false] at h
    rw [withdraw_enters h.1 h.2]
    exact withdraw_stays (.inl (by rw [State.onAir, enterWithdrawn_nc]; rfl))

/-! ## The Fault Log for other keys -/

theorem isActive_iff (fr : Recorder) (k : Key) : fr.isActive k = true ↔ ∃ r ∈ fr.log, r.key = k ∧ r.active = true := by
  simp [Recorder.isActive]

/-- A raise of one key leaves the Active records of every other. -/
theorem mem_raise_other {fr : Recorder} {now : Nat} {k : Key} {x : Option (Int × Int)} {r : Record}
    (hk : r.key ≠ k) (ha : r.active = true) : r ∈ (fr.raise now k x).log ↔ r ∈ fr.log := by
  unfold Recorder.raise
  split_ifs
  · rfl
  · rw [evaluate_log]
    show r ∈ fr.log.map _ ↔ _
    constructor
    · intro hr
      obtain ⟨y, hy, rfl⟩ := List.mem_map.mp hr
      split_ifs at hk ⊢ with h
      · exact absurd h hk
      · exact hy
    · exact fun hr => List.mem_map.mpr ⟨r, hr, if_neg hk⟩
  · have fresh : r ≠ newRecord fr.nextSeq now k x := fun h => hk (h ▸ rfl)
    rw [evaluate_log]
    unfold Recorder.create
    dsimp only
    split_ifs
    · simp [fresh]
    · rfl
    · simp [fresh, dropOldestCleared, List.mem_eraseP_of_neg (p := fun r : Record => !r.active), ha]

/-- A clear of one key leaves the records of every other. -/
theorem mem_clear_other {fr : Recorder} {now : Nat} {k : Key} {r : Record} (hk : r.key ≠ k) :
    r ∈ (fr.clear now k).log ↔ r ∈ fr.log := by
  unfold Recorder.clear
  split_ifs
  · rw [evaluate_log]
    show r ∈ fr.log.filterMap _ ↔ _
    constructor
    · intro hr
      obtain ⟨y, hy, h⟩ := List.mem_filterMap.mp hr
      split_ifs at h with hc
      · unfold Record.ended at h
        split_ifs at h
        obtain rfl := Option.some.inj h
        exact absurd hc.1 hk
      · obtain rfl := Option.some.inj h
        exact hy
    · exact fun hr => List.mem_filterMap.mpr ⟨r, hr, if_neg fun h => hk h.1⟩
  · rfl

theorem raise_isActive_other {fr : Recorder} {now : Nat} {j k : Key} {x : Option (Int × Int)} (h : j ≠ k) :
    (fr.raise now k x).isActive j = fr.isActive j := by
  rw [Bool.eq_iff_iff, isActive_iff, isActive_iff]
  refine exists_congr fun r => and_congr_left fun ⟨hj, ha⟩ => mem_raise_other (hj ▸ h) ha

theorem clear_isActive_other {fr : Recorder} {now : Nat} {j k : Key} (h : j ≠ k) :
    (fr.clear now k).isActive j = fr.isActive j := by
  rw [Bool.eq_iff_iff, isActive_iff, isActive_iff]
  exact exists_congr fun r => and_congr_left fun ⟨hj, _⟩ => mem_clear_other (hj ▸ h)

/-- A pass touches no key but FLR. -/
theorem pass_isActive {k : Key} (s : State) (h : k ≠ .plain .flr) : (pass s).fr.isActive k = s.fr.isActive k := by
  rw [pass_fr, reportShort]
  split_ifs
  · exact raise_isActive_other h
  · exact clear_isActive_other h

theorem enterWithdrawn_isActive {k : Key} (s : State) (h : k ≠ .plain .flr) :
    (enterWithdrawn s).fr.isActive k = s.fr.isActive k := by
  rw [enterWithdrawn_eq, breakRequest_fr, stateChanged, alarm_fr, pass_isActive _ h, evaluateOff_fr, leavingAir_fr]

/-! ## A Severe record that becomes Active -/

/-- Another record than the key's is Severe, Active and unacknowledged (R149). -/
def Recorder.otherSevereStands (fr : Recorder) (k : Key) : Prop :=
  ∃ r ∈ fr.log, r.key ≠ k ∧ r.key.kind.faultClass = .severe ∧ r.active = true ∧ r.acked = false

theorem otherSevere_iff (fr : Recorder) (k : Key) : fr.otherSevere k = true ↔ fr.otherSevereStands k := by
  simp [Recorder.otherSevere, Recorder.otherSevereStands, Record.severe, and_assoc]

theorem raise_otherSevereStands (fr : Recorder) (now : Nat) (k : Key) (x : Option (Int × Int)) :
    (fr.raise now k x).otherSevereStands k ↔ fr.otherSevereStands k :=
  exists_congr fun _ => and_congr_left fun ⟨hk, _, ha, _⟩ => mem_raise_other hk ha

/-- The record of a Severe fault and its alarm cause (R93, R143). -/
def alarmedRecord (k : Key) (x : Option (Int × Int)) (s : State) : State := alarm (raiseRecord k x s)

/-- A Severe record that becomes Active: the alarm cause, the entry to Withdrawn for a second one and for ANT, and the
break request of ANT (R76, R93, R149, R150). -/
theorem raiseFault_severe {k : Key} {s : State} (x : Option (Int × Int)) (severe : k.kind.faultClass = .severe)
    (inactive : s.fr.isActive k = false) (room : s.fr.log.length < 32) :
    (k.kind = .ant → raiseFault k x s = breakRequest (withdraw (alarmedRecord k x s))) ∧
    (k.kind ≠ .ant → s.fr.otherSevereStands k → raiseFault k x s = withdraw (alarmedRecord k x s)) ∧
    (k.kind ≠ .ant → ¬ s.fr.otherSevereStands k → raiseFault k x s = alarmedRecord k x s) := by
  have became : (!s.fr.isActive k && (raiseRecord k x s).fr.isActive k) = true := by
    rw [inactive, raiseRecord_fr, raise_active _ _ _ _ room]
    rfl
  have other_iff : (alarmedRecord k x s).fr.otherSevere k = true ↔ s.fr.otherSevereStands k := by
    rw [alarmedRecord, alarm_fr, otherSevere_iff, raiseRecord_fr, raise_otherSevereStands]
  unfold raiseFault
  simp only [became, severe, if_true, Bool.true_and, ← alarmedRecord.eq_1]
  refine ⟨fun ant => ?_, fun other_kind other => ?_, fun other_kind none => ?_⟩
  · rw [if_pos ant]
    split_ifs
    · rw [withdraw_withdraw]
    · rfl
  · rw [if_neg other_kind, if_pos (other_iff.mpr other)]
  · rw [if_neg other_kind, if_neg fun h => none (other_iff.mp h)]

/-! ## What a Severe record that becomes Active leaves -/

theorem alarmedRecord_lc {k : Key} {x : Option (Int × Int)} {s : State} (running : s.nc.restart ≠ .inProgress) :
    (alarmedRecord k x s).lc = s.lc.alarmed := alarm_lc running

theorem alarmedRecord_nc (k : Key) (x : Option (Int × Int)) (s : State) : (alarmedRecord k x s).nc = s.nc := by
  simp [alarmedRecord]

/-- Escalation asks for a break: ANT, and the entry to Withdrawn (R76). -/
theorem enterWithdrawn_pendingBreak (s : State) :
    (s.breakSpaced → (enterWithdrawn s).lc.pendingBreak = true) ∧
    (¬ s.breakSpaced → (enterWithdrawn s).lc.pendingBreak = s.lc.pendingBreak) := by
  have spaced_iff : (stateChanged s.leavingAir).breakSpaced ↔ s.breakSpaced := by
    rw [State.breakSpaced, stateChanged_mode, stateChanged_lastBreak, stateChanged_now]
    rfl
  rw [enterWithdrawn_eq]
  refine ⟨fun h => ?_, fun h => ?_⟩
  · rw [breakRequest_kept_of_spaced (spaced_iff.mpr h)]
  · rw [breakRequest_dropped fun h' => h (spaced_iff.mp h'), stateChanged_pendingBreak, leavingAir_lc]

/-- A Severe record that becomes Active has the node enter Withdrawn: it is on the air, and the fault is ANT or another
stands unacknowledged (R149, R150). -/
def State.escalates (s : State) (k : Key) : Prop :=
  (k.kind = .ant ∨ s.fr.otherSevereStands k) ∧ s.onAir = true ∧ s.nc.restart ≠ .inProgress

section
variable {k : Key} {s : State} (x : Option (Int × Int)) (severe : k.kind.faultClass = .severe)
  (inactive : s.fr.isActive k = false) (room : s.fr.log.length < 32)
include severe inactive room

/-- A Severe record that becomes Active leaves the state with record and alarm cause, or its entry to Withdrawn; and ANT
asks for a break on top (R76, R149, R150). -/
theorem raiseFault_severe_outcome :
    ∃ u, (s.escalates k ∧ u = enterWithdrawn (alarmedRecord k x s) ∨ ¬ s.escalates k ∧ u = alarmedRecord k x s) ∧
      (k.kind = .ant ∧ raiseFault k x s = breakRequest u ∨ k.kind ≠ .ant ∧ raiseFault k x s = u) := by
  obtain ⟨onAnt, onOther, alone⟩ := raiseFault_severe x severe inactive room
  have air : (alarmedRecord k x s).onAir = s.onAir := by rw [State.onAir, alarmedRecord_nc]; rfl
  have escalated (cause : k.kind = .ant ∨ s.fr.otherSevereStands k) :
      s.escalates k ∧ withdraw (alarmedRecord k x s) = enterWithdrawn (alarmedRecord k x s) ∨
        ¬ s.escalates k ∧ withdraw (alarmedRecord k x s) = alarmedRecord k x s := by
    by_cases h : s.onAir = true ∧ s.nc.restart ≠ .inProgress
    · exact .inl ⟨⟨cause, h⟩, withdraw_enters (air.trans h.1) (by rw [alarmedRecord_nc]; exact h.2)⟩
    · refine .inr ⟨fun e => h e.2, withdraw_stays ?_⟩
      rw [air, alarmedRecord_nc]
      simpa [imp_iff_not_or] using h
  by_cases ant : k.kind = .ant
  · exact ⟨_, escalated (.inl ant), .inl ⟨ant, onAnt ant⟩⟩
  · by_cases other : s.fr.otherSevereStands k
    · exact ⟨_, escalated (.inr other), .inr ⟨ant, onOther ant other⟩⟩
    · exact ⟨_, .inr ⟨fun e => e.1.elim ant other, rfl⟩, .inr ⟨ant, alone ant other⟩⟩

theorem raiseFault_severe_active : (raiseFault k x s).fr.isActive k = true := by
  have recorded : (alarmedRecord k x s).fr.isActive k = true := by
    rw [alarmedRecord, alarm_fr, raiseRecord_fr]
    exact raise_active _ _ _ _ room
  have notFlr : k ≠ .plain .flr := fun h => by
    subst h
    exact absurd severe (by decide)
  obtain ⟨u, hu, ht⟩ := raiseFault_severe_outcome x severe inactive room
  have entered : u.fr.isActive k = true := by
    rcases hu with ⟨-, hu⟩ | ⟨-, hu⟩
    · rw [hu, enterWithdrawn_isActive _ notFlr, recorded]
    · rw [hu, recorded]
  rcases ht with ⟨-, ht⟩ | ⟨-, ht⟩
  · rw [ht, breakRequest_fr, entered]
  · rw [ht, entered]

/-- A Severe record that becomes Active, but for the line. -/
theorem raiseFault_severe_blocks :
    ∃ u, (s.escalates k ∧ u = enterWithdrawn (alarmedRecord k x s) ∨ ¬ s.escalates k ∧ u = alarmedRecord k x s) ∧
      (raiseFault k x s).nc = u.nc ∧ (raiseFault k x s).su = u.su ∧ (raiseFault k x s).ca = u.ca ∧
      (raiseFault k x s).pm = u.pm := by
  obtain ⟨u, hu, ht⟩ := raiseFault_severe_outcome x severe inactive room
  refine ⟨u, hu, ?_⟩
  rcases ht with ⟨-, ht⟩ | ⟨-, ht⟩ <;> rw [ht] <;> simp

/-- Escalation: the node is in Withdrawn (R149, R163). -/
theorem raiseFault_severe_escalates (h : s.escalates k) :
    (raiseFault k x s).nc = { s.nc with state := some .withdrawn, joinTimer := .stopped } ∧
    (raiseFault k x s).su = ⟨.stopped, none⟩ ∧
    ∀ j, (raiseFault k x s).ca.slots.get j =
      { s.ca.slots.get j with
        bias := 0, fill := 0, request := 0, grant := 0, lastSent := 0, off := (s.ca.slots.get j).enabled } := by
  have running : (alarmedRecord k x s).nc.restart ≠ .inProgress := by rw [alarmedRecord_nc]; exact h.2.2
  have table : (alarmedRecord k x s).ca = s.ca := by simp [alarmedRecord]
  obtain ⟨u, ⟨-, hu⟩ | ⟨none, -⟩, nc, su, ca, -⟩ := raiseFault_severe_blocks x severe inactive room
  · rw [nc, su, ca, hu]
    refine ⟨by rw [enterWithdrawn_nc, alarmedRecord_nc], enterWithdrawn_su _, fun j => ?_⟩
    rw [enterWithdrawn_slot running, table]
  · exact absurd h none

/-- Without escalation node state, Spread Unit, allocation and protection stay as they are. -/
theorem raiseFault_severe_stays (h : ¬ s.escalates k) :
    (raiseFault k x s).nc = s.nc ∧ (raiseFault k x s).su = s.su ∧ (raiseFault k x s).ca = s.ca ∧
      (raiseFault k x s).pm = s.pm := by
  obtain ⟨u, ⟨some, -⟩ | ⟨-, hu⟩, nc, su, ca, pm⟩ := raiseFault_severe_blocks x severe inactive room
  · exact absurd some h
  · rw [nc, su, ca, pm, hu]
    simp [alarmedRecord]

/-- The line, but for the pending break: nothing during a soft restart (R97), else one alarm cause (R91, R93). -/
theorem raiseFault_severe_lc :
    (s.nc.restart = .inProgress →
      (raiseFault k x s).lc = { s.lc with pendingBreak := (raiseFault k x s).lc.pendingBreak }) ∧
    (s.nc.restart ≠ .inProgress →
      (raiseFault k x s).lc = { s.lc.alarmed with pendingBreak := (raiseFault k x s).lc.pendingBreak }) := by
  have broken (lc : Line) (u t : State) (hu : u.lc = { lc with pendingBreak := u.lc.pendingBreak })
      (ht : t = breakRequest u ∨ t = u) : t.lc = { lc with pendingBreak := t.lc.pendingBreak } := by
    rcases ht with ht | ht
    · rw [ht, breakRequest_lc, hu]
    · rw [ht]; exact hu
  obtain ⟨u, hu, ht⟩ := raiseFault_severe_outcome x severe inactive room
  have ht' : raiseFault k x s = breakRequest u ∨ raiseFault k x s = u := ht.imp And.right And.right
  refine ⟨fun restarting => broken _ u _ ?_ ht', fun running => broken _ u _ ?_ ht'⟩
  · rcases hu with ⟨esc, -⟩ | ⟨-, hu⟩
    · exact absurd restarting esc.2.2
    · rw [hu, alarmedRecord, alarm_restarting (by exact restarting)]
      rfl
  · have line : (alarmedRecord k x s).lc = s.lc.alarmed := alarmedRecord_lc running
    rcases hu with ⟨-, hu⟩ | ⟨-, hu⟩
    · rw [hu, enterWithdrawn_lc (by rw [alarmedRecord_nc]; exact running) (by rw [line, alarmed_alarmed]), line]
    · rw [hu, line]

/-- A break is asked for by ANT and by the entry to Withdrawn, and by nothing else (R76). -/
theorem raiseFault_severe_pendingBreak :
    ((k.kind = .ant ∨ s.escalates k) ∧ s.breakSpaced → (raiseFault k x s).lc.pendingBreak = true) ∧
    (¬ ((k.kind = .ant ∨ s.escalates k) ∧ s.breakSpaced) →
      (raiseFault k x s).lc.pendingBreak = s.lc.pendingBreak) := by
  have before : (alarmedRecord k x s).lc.pendingBreak = s.lc.pendingBreak := by
    rcases alarm_cases (raiseRecord k x s) with ⟨-, h⟩ | ⟨-, -, h⟩ | ⟨-, -, h⟩ <;> rw [alarmedRecord, h] <;> rfl
  have spacedRecord : (alarmedRecord k x s).breakSpaced ↔ s.breakSpaced := by simp [State.breakSpaced, alarmedRecord]
  obtain ⟨entered, notEntered⟩ := enterWithdrawn_pendingBreak (alarmedRecord k x s)
  rw [spacedRecord] at entered notEntered
  rw [before] at notEntered
  obtain ⟨u, hu, ht⟩ := raiseFault_severe_outcome x severe inactive room
  have spaced_u : u.breakSpaced ↔ s.breakSpaced := by
    rcases hu with ⟨-, hu⟩ | ⟨-, hu⟩ <;> rw [hu] <;> simp [State.breakSpaced, alarmedRecord]
  have pending_u : (s.escalates k ∧ s.breakSpaced → u.lc.pendingBreak = true) ∧
      (¬ (s.escalates k ∧ s.breakSpaced) → u.lc.pendingBreak = s.lc.pendingBreak) := by
    rcases hu with ⟨esc, hu⟩ | ⟨esc, hu⟩
    · rw [hu]
      exact ⟨fun h => entered h.2, fun h => notEntered fun spaced => h ⟨esc, spaced⟩⟩
    · rw [hu]
      exact ⟨fun h => absurd h.1 esc, fun _ => before⟩
  obtain ⟨asked, notAsked⟩ := pending_u
  rcases ht with ⟨ant, ht⟩ | ⟨ant, ht⟩
  · by_cases spaced : s.breakSpaced
    · rw [ht, breakRequest_kept_of_spaced (spaced_u.mpr spaced)]
      exact ⟨fun _ => rfl, fun h => absurd ⟨.inl ant, spaced⟩ h⟩
    · rw [ht, breakRequest_dropped fun h => spaced (spaced_u.mp h)]
      exact ⟨fun h => absurd h.2 spaced, fun _ => notAsked fun h => spaced h.2⟩
  · rw [ht]
    exact ⟨fun h => asked ⟨h.1.resolve_left ant, h.2⟩, fun h => notAsked fun h' => h ⟨.inr h'.1, h'.2⟩⟩

end

/-- Settles O21, by whether the raise escalates. -/
theorem secondSevereFaultWithdraws : Obligations.SecondSevereFaultWithdraws := by
  refine ⟨fun s k x severe inactiveRecords room => ?_, fun s => ?_⟩
  · have inactive : s.fr.isActive k = false := by
      rw [Bool.eq_false_iff, ne_eq, isActive_iff]
      rintro ⟨r, hr, hk, ha⟩
      simp [inactiveRecords r hr hk] at ha
    have active := raiseFault_severe_active x severe inactive room
    have escalates := raiseFault_severe_escalates x severe inactive room
    have stays := raiseFault_severe_stays x severe inactive room
    obtain ⟨breakAsked, breakNot⟩ := raiseFault_severe_pendingBreak x severe inactive room
    obtain ⟨lineRestarting, lineRunning⟩ := raiseFault_severe_lc x severe inactive room
    have frame : raiseFault k x s =
        { s with
          ca := (raiseFault k x s).ca, pm := (raiseFault k x s).pm, lc := (raiseFault k x s).lc,
          su := (raiseFault k x s).su, fr := (raiseFault k x s).fr, nc := (raiseFault k x s).nc } := by
      apply State.ext_blocks <;> simp
    generalize raiseFault k x s = t at *
    have asks_iff : (k.kind = .ant ∨ s.escalates k) ↔
        (k.kind = .ant ∨ s.fr.otherSevereStands k ∧ s.onAir = true ∧ s.nc.restart ≠ .inProgress) := by
      by_cases ant : k.kind = .ant <;> simp [State.escalates, ant]
    rw [asks_iff] at breakAsked breakNot
    refine ⟨active, fun cause air running => ?_, fun none notAnt => ?_, fun ground => ?_, frame,
      ⟨fun asks spaced => breakAsked ⟨asks, spaced⟩, breakNot⟩, lineRestarting, fun running free => ?_,
      fun running busy => ?_⟩
    · obtain ⟨nc, su, slot⟩ := escalates ⟨cause.symm, air, running⟩
      refine ⟨nc, su, fun j => ?_⟩
      rw [slot]
      exact ⟨rfl, rfl, rfl, rfl⟩
    · exact stays fun e => e.1.elim notAnt none
    · refine stays fun e => ?_
      rcases ground with h | h
      · exact absurd (h.symm.trans e.2.1) (by decide)
      · exact e.2.2 h
    · have marker : s.lc.alarmed = s.lc.urgentMarker := by simp [Line.alarmed, free]
      have line := lineRunning running
      rw [marker, urgentMarker_eq] at line
      exact line
    · have followUp : s.lc.alarmed = { s.lc with followUp := true } := by simp [Line.alarmed, busy]
      have line := lineRunning running
      rw [followUp] at line
      exact line
  · obtain ⟨changed, same⟩ := evaluateOff_lc s
    refine ⟨evaluateOff_slot s, same, fun h running free => ?_, fun h running busy => ?_, ?_⟩
    · rw [changed h running]
      simp [Line.alarmed, free, urgentMarker_eq]
    · rw [changed h running]
      simp [Line.alarmed, busy]
    · apply State.ext_blocks
      case ca => exact evaluateOff_ca s
      all_goals simp

end Sys2Proof.Machine
end

section
/-! SUPPORT. The resets (R156, R158) and the ends of an image read (R157, R159, R160): what they leave of the laws. -/

namespace Sys2Proof.Machine

/-! ## The state after reset -/

theorem reset_slot (k : Slot) : State.reset.ca.slots.get k = SlotRecord.reset := by cases k <;> rfl

theorem reset_guard (k : Slot) : State.reset.pm.slots.get k = SlotGuard.reset := by cases k <;> rfl

theorem reset_participates (k : Slot) : State.reset.participates k = false := by
  rw [State.participates, reset_slot]
  rfl

theorem reset_offNow (k : Slot) : State.reset.offNow k = false := by
  rw [State.offNow, reset_slot]
  rfl

theorem reset_powerLaw : PowerLaw State.reset := by
  refine ⟨⟨fun k => ?_, fun k => ?_, fun k => ?_, by decide⟩, fun k => ?_, rfl⟩
  · rw [reset_slot, reset_participates]
    rfl
  · rw [reset_slot]
    exact Nat.le_refl 0
  · rw [reset_slot]
    rfl
  · rw [reset_slot, reset_offNow]
    rfl

theorem reset_portSound : State.reset.ca.portSound :=
  ⟨List.nodup_nil, fun _ => rfl, rfl, fun k f h => by simp [Allocator.framesFor, State.reset] at h⟩

theorem reset_trimLaw : TrimLaw State.reset := by
  refine ⟨fun k => ?_, fun r h => absurd h (by simp [State.reset]), fun g h => absurd h (by simp [State.reset])⟩
  rw [reset_slot]
  exact ⟨.inl rfl, Nat.zero_le _, Nat.zero_le _, fun g h => absurd h (by simp [State.reset])⟩

theorem reset_settingLaw : SettingLaw State.reset := by
  refine ⟨fun k => ?_, rfl⟩
  rw [reset_slot]
  rfl

theorem reset_protectionLaw : ProtectionLaw State.reset := by
  refine ⟨fun k => ?_, fun _ => rfl, fun g h => absurd h (by simp [State.reset]), fun _ => ⟨rfl, rfl, fun k => ?_⟩⟩
  · rw [reset_slot, reset_guard]
    simp [SlotRecord.reset, SlotGuard.reset]
  · rw [reset_slot, reset_guard]
    exact ⟨rfl, rfl, rfl⟩

theorem reset_controlLaw : ControlLaw State.reset := by
  unfold ControlLaw
  decide

/-- Settles O3, law by law on the state after reset. -/
theorem resetStateIsSafe : Obligations.ResetStateIsSafe := by
  have emptyLog : ∀ r, r ∉ State.reset.fr.log := fun r => List.not_mem_nil
  refine ⟨?_, ?_, reset_powerLaw, reset_portSound, reset_trimLaw, reset_settingLaw, ?_, ?_, reset_controlLaw, ?_,
    reset_protectionLaw, fun r hr => absurd hr (emptyLog r)⟩
  · refine ⟨fun h => absurd h (by decide), ?_⟩
    rintro ⟨r, hr, -⟩
    exact absurd hr (emptyLog r)
  · exact ⟨by decide, by decide, fun r hr => absurd hr (emptyLog r), by decide, by decide⟩
  · exact ⟨by decide, List.Pairwise.nil, by decide, by decide, by decide, by decide, by decide, by decide, by decide,
      by decide⟩
  · exact ⟨by decide, by decide, fun e he => absurd he List.not_mem_nil⟩
  · intro listenOnly
    exact absurd listenOnly (by decide)

/-! ## FULL_RESET -/

/-- The Carriage Allocator after a full reset: a level 0 frame for every slot, the first of them being sent (R24). -/
def Allocator.fullReset : Allocator :=
  { State.reset.ca with
    levelBits := levelBitsOf ⟨.s1, 0⟩
    levelSending := some ⟨.s1, 0⟩
    levelQueue := [⟨.s2, 0⟩, ⟨.s3, 0⟩, ⟨.s4, 0⟩, ⟨.s5, 0⟩, ⟨.s6, 0⟩] }

/-- The part released from reset with its straps read, before its start path (R156). -/
def State.released (straps : BitVec 6) (pending : List Instr) : State :=
  { State.reset with
    ca := Allocator.fullReset
    nc := { State.reset.nc with strap := straps, resetHeld := false }
    pending := pending }

theorem zeroLevels_reset (pending : List Instr) :
    zeroLevels { State.reset with pending := pending } =
      { State.reset with ca := Allocator.fullReset, pending := pending } := by
  have levels : Slot.all.foldl (fun ca k => ca.sendLevel k 0) State.reset.ca = Allocator.fullReset := by rfl
  unfold zeroLevels
  rw [levels]

theorem exec_fullReset (straps : BitVec 6) (s : State) :
    exec (.fullReset straps) s = .next
      (if validStrap straps then startImageRead (State.released straps s.pending)
      else invalidStrapPath (State.released straps s.pending)) := by
  unfold exec execFullReset
  dsimp only
  rw [zeroLevels_reset]
  rfl

theorem fullReset_slot (k : Slot) : Allocator.fullReset.slots.get k = SlotRecord.reset := reset_slot k

theorem fullReset_portSound : Allocator.fullReset.portSound := by
  refine ⟨by decide, fun h => absurd h (by decide), rfl, fun k f h => ?_⟩
  rw [fullReset_slot]
  cases k <;> · obtain rfl := Option.some.inj h; rfl

theorem released_alike (straps : BitVec 6) (pending : List Instr) :
    Alike State.reset (State.released straps pending) :=
  ⟨fun _ => rfl, rfl, fun _ => fullReset_portSound, rfl, rfl, rfl, rfl, rfl, rfl, rfl⟩

theorem beginLine_alike (rate : BitRate) (mode : LineMode) (s : State) : Alike s (beginLine rate mode s) :=
  setLine_alike s _

theorem startImageRead_alike (s : State) : Alike s (startImageRead s) := setControl_alike s _ rfl rfl Iff.rfl

theorem invalidStrapPath_kept {s : State} (setting : s.nc.setting = none) : Kept s (invalidStrapPath s) := by
  have before := (raiseFault_kept (.plain .adr) none s).trans (beginLine_alike .kbit250 .listenOnly _).kept
  exact before.trans (enterUnconfigured_settled (before.setting.trans setting)).kept

/-- A full reset leaves what keeps the laws from the state after reset. -/
theorem fullReset_kept {straps : BitVec 6} {s t : State} (h : exec (.fullReset straps) s = .next t) :
    Kept State.reset t := by
  rw [exec_fullReset] at h
  obtain rfl := Host.Outcome.next.inj h
  have released := released_alike straps s.pending
  split_ifs
  exacts [(released.trans (startImageRead_alike _)).kept, released.kept.trans (invalidStrapPath_kept rfl)]

theorem resetInputAsserted_kept {s t : State} (h : exec .resetInputAsserted s = .next t) : Kept State.reset t := by
  obtain rfl := Host.Outcome.next.inj h
  exact (Alike.of_blocks (s := State.reset) (t := { State.reset with pending := s.pending }) rfl rfl rfl rfl rfl).kept

theorem Allocator.ext_fields {ca cb : Allocator} (slots : ca.slots = cb.slots) (budget : ca.budget = cb.budget)
    (queue : ca.levelQueue = cb.levelQueue) (sending : ca.levelSending = cb.levelSending)
    (bits : ca.levelBits = cb.levelBits) : ca = cb := by
  cases ca; cases cb
  simp_all only

/-! ## The start with an invalid strap address -/

theorem SlotRecord.zeroLevels_eq {r : SlotRecord} (request : r.request = 0) (grant : r.grant = 0)
    (lastSent : r.lastSent = 0) : { r with request := 0, grant := 0, lastSent := 0 } = r := by
  cases r
  simp_all only

theorem clear_of_inactive {fr : Recorder} {k : Key} (now : Nat) (h : fr.isActive k = false) : fr.clear now k = fr := by
  simp [Recorder.clear, h]

/-- A pass changes nothing where no slot participates, every level and clean-run timer is down, and FLR is not
Active. -/
theorem pass_of_quiet {s : State} (quiet : ∀ k, s.participates k = false)
    (down : ∀ k, (s.ca.slots.get k).request = 0 ∧ (s.ca.slots.get k).grant = 0 ∧ (s.ca.slots.get k).lastSent = 0)
    (stopped : ∀ k, (s.pm.slots.get k).cleanRun = .stopped) (noFlr : s.fr.isActive (.plain .flr) = false) :
    pass s = s := by
  have record (k : Slot) : (pass s).ca.slots.get k = s.ca.slots.get k := by
    obtain ⟨request, grant, lastSent⟩ := down k
    rw [pass_silent s k (quiet k), SlotRecord.zeroLevels_eq request grant lastSent]
  have unchanged (k : Slot) : s.passChanges k = false := by
    obtain ⟨-, grant, lastSent⟩ := down k
    rw [passChanges_eq, record, grant, lastSent]
    rfl
  have guarded (k : Slot) : (pass s).pm.slots.get k = s.pm.slots.get k := by
    rw [pass_guard, unchanged, Bool.or_false, State.cleanRunAfter, quiet, ← stopped k]
    rfl
  have noRequests : s.requests.sum = 0 := by
    simp only [Six.sum_slots, requests_silent (quiet _)]
  obtain ⟨queue, sending, bits⟩ := pass_port_idle unchanged
  apply State.ext_blocks
  case ca => exact Allocator.ext_fields (Six.ext_get record) (pass_budget s) queue sending bits
  case pm =>
    have none_changed : Slot.all.any s.passChanges = false := List.any_eq_false.mpr fun k _ => by simp [unchanged k]
    rw [pass_pm, none_changed, Bool.or_false, Six.ext_get guarded]
  case fr =>
    have enough : floorsShort s.requests s.floors s.ca.budget = false := by simp [floorsShort, noRequests]
    rw [pass_fr, reportShort, enough]
    exact clear_of_inactive _ noFlr
  all_goals simp

theorem evaluateOff_of_stands {s : State} (h : s.offFlagsStand) : evaluateOff s = s := by
  have record (k : Slot) : (evaluateOff s).ca.slots.get k = s.ca.slots.get k := by
    rw [evaluateOff_slot, ← h k]
  apply State.ext_blocks
  case ca => rw [evaluateOff_ca, Six.ext_get record]
  case lc => exact (evaluateOff_lc s).2 (.inl fun ⟨k, _, hk⟩ => hk (h k))
  all_goals simp

/-- The part with an invalid strap address: Unconfigured and Listen-only, ADR raised, an urgent beacon due (R158). -/
def State.strapRefused (straps : BitVec 6) (pending : List Instr) : State :=
  { State.released straps pending with
    lc :=
      { Line.reset with
        inUse := true, rate := .kbit250, mode := .listenOnly, txQueue := [.marker true] }
    fr := ⟨[⟨0, .plain .adr, none, 0, none, 1, true, false⟩], 1, false, 0, true⟩
    nc := { State.reset.nc with strap := straps, resetHeld := false, state := some .unconfigured } }

theorem strapRefused_quiet (straps : BitVec 6) (pending : List Instr) (k : Slot) :
    (State.strapRefused straps pending).participates k = false := by
  have slot : (State.strapRefused straps pending).ca.slots.get k = SlotRecord.reset := fullReset_slot k
  rw [State.participates, slot]
  rfl

theorem strapRefused_settled (straps : BitVec 6) (pending : List Instr) :
    pass (evaluateOff (State.strapRefused straps pending)) = State.strapRefused straps pending := by
  have slot (k : Slot) : (State.strapRefused straps pending).ca.slots.get k = SlotRecord.reset := fullReset_slot k
  have guarded (k : Slot) : (State.strapRefused straps pending).pm.slots.get k = SlotGuard.reset := reset_guard k
  have off : (State.strapRefused straps pending).offFlagsStand := fun k => by
    rw [State.offNow, slot]
    rfl
  rw [evaluateOff_of_stands off]
  refine pass_of_quiet (strapRefused_quiet straps pending) (fun k => ?_) (fun k => ?_) rfl
  · rw [slot]
    exact ⟨rfl, rfl, rfl⟩
  · rw [guarded]
    rfl

theorem strapRefused_alarmed (straps : BitVec 6) (pending : List Instr) :
    alarm (State.strapRefused straps pending) = State.strapRefused straps pending := by
  apply State.ext_blocks
  case lc => exact alarm_lc (s := State.strapRefused straps pending) Restart.noConfusion
  all_goals simp

theorem adr_raised (straps : BitVec 6) (pending : List Instr) :
    raiseFault (.plain .adr) none (State.released straps pending) =
      { State.released straps pending with
        fr := (State.strapRefused straps pending).fr, lc := { Line.reset with txQueue := [.marker true] } } := by
  have noOther : ¬ (State.released straps pending).fr.otherSevereStands (.plain .adr) := by
    rintro ⟨r, hr, -⟩
    exact absurd hr List.not_mem_nil
  have recorded : State.reset.fr.raise 0 (.plain .adr) none = ⟨[⟨0, .plain .adr, none, 0, none, 1, true, false⟩], 1,
      false, 0, true⟩ := by decide
  have room : (State.released straps pending).fr.log.length < 32 := Nat.zero_lt_succ 31
  obtain ⟨-, -, alone⟩ := raiseFault_severe (s := State.released straps pending) (k := .plain .adr) none rfl rfl room
  rw [alone (by decide) noOther, alarmedRecord]
  apply State.ext_blocks
  case lc => exact alarm_lc (s := raiseRecord _ _ (State.released straps pending)) Restart.noConfusion
  case fr => rw [alarm_fr]; exact recorded
  all_goals simp

theorem invalidStrapPath_eq (straps : BitVec 6) (pending : List Instr) :
    invalidStrapPath (State.released straps pending) =
      startBeaconTimer Config.unconfiguredPeriod (alarm (State.strapRefused straps pending)) := by
  have before : enterUnconfigured (beginLine .kbit250 .listenOnly
      { State.released straps pending with
        fr := (State.strapRefused straps pending).fr, lc := { Line.reset with txQueue := [.marker true] } }) =
      startBeaconTimer Config.unconfiguredPeriod (stateChanged (State.strapRefused straps pending)) := rfl
  rw [invalidStrapPath, adr_raised, before, stateChanged, strapRefused_settled]

/-- Settles O22, by the two start paths. -/
theorem fullResetStartsThePart : Obligations.FullResetStartsThePart := by
  intro straps s
  have valid_iff : validStrap straps = true ↔ 1 ≤ straps.toNat ∧ straps.toNat ≤ 60 := by simp [validStrap]
  refine ⟨_, exec_fullReset straps s, ?_⟩
  cases valid : validStrap straps with
  | true =>
    have range := valid_iff.mp valid
    refine ⟨rfl, rfl, rfl, rfl, rfl, rfl, rfl, rfl, rfl, rfl, rfl, rfl, rfl, fun _ => ⟨rfl, rfl, rfl, rfl⟩, fun h => ?_⟩
    omega
  | false =>
    rw [if_neg Bool.false_ne_true, invalidStrapPath_eq, strapRefused_alarmed]
    refine ⟨rfl, rfl, rfl, rfl, rfl, rfl, rfl, rfl, rfl, rfl, rfl, rfl, rfl, fun h => ?_,
      fun _ => ⟨rfl, rfl, rfl, rfl, rfl, rfl, rfl, rfl, rfl, rfl⟩⟩
    simp [valid_iff.mpr h] at valid

end Sys2Proof.Machine
end

section
/-! SUPPORT. The end of an image read (R157, R159, R160), the begin and the commit of a round (R116, R118), and the laws
kept by every step. -/

namespace Sys2Proof.Machine

/-! ## The end of an image read -/

/-- The image loaded is the one held, each slot and the mask follow it, and the budget stands (R2, R10, R147, R159). -/
theorem loadImage_settingLaw (image : List Byte) (s : State) : SettingLaw (loadImage (settingOf image) s) := by
  refine ⟨fun k => ?_, rfl, fun k => ?_⟩
  · rw [loaded_iff]
    simp only [loadImage, recomputeBudget, Six.get_tabulate]
    rfl
  · rw [settingOf_slot]
    obtain ⟨-, -, floor, nominal, maximum, riseFull, -⟩ := slotSettingOf_bounds image k
    exact ⟨floor, nominal, maximum, riseFull⟩

theorem loadImage_budgetStands (g : Setting) (s : State) : (loadImage g s).budgetStands := rfl

theorem loadImage_portSound {g : Setting} {s : State} (h : s.ca.portSound) : (loadImage g s).ca.portSound :=
  portSound_of_samePort (ca := s.ca) rfl rfl rfl
    (fun k => by simp only [loadImage, recomputeBudget, Six.get_tabulate]; rfl) h

theorem unloadImage_settingLaw (s : State) : SettingLaw (unloadImage s) := by
  refine ⟨fun k => ?_, rfl⟩
  rw [unloaded_iff]
  simp only [unloadImage, Six.get_map]
  rfl

theorem unloadImage_budgetStands (s : State) : (unloadImage s).budgetStands := by
  have noBudget : (unloadImage s).bCfg = 0 := rfl
  rw [State.budgetStands, noBudget]
  exact (Nat.div_eq_of_lt (by simp)).symm

theorem unloadImage_portSound {s : State} (h : s.ca.portSound) : (unloadImage s).ca.portSound :=
  portSound_of_samePort (ca := s.ca) rfl rfl rfl (fun k => by simp only [unloadImage, Six.get_map]; rfl) h

theorem restartOver_carried (s : State) : Carried s (restartOver s) :=
  ⟨fun _ => rfl, fun _ => .inl ⟨rfl, rfl⟩, id, .inl rfl, rfl, rfl⟩

theorem raiseThermalAgain_kept (g : Setting) (s : State) : Kept s (raiseThermalAgain g s) := by
  unfold raiseThermalAgain
  dsimp only
  split_ifs
  exacts [(raiseFault_kept _ _ s).trans (raiseFault_kept _ _ _), raiseFault_kept _ _ s, raiseFault_kept _ _ s, .refl s]

/-- After a good image is loaded the laws are carried to Joining, where the trims are 0 and the budget is divided
(R161). -/
theorem goodImage_settled (g : Setting) (s : State) : Settled (loadImage g s) (goodImage g s) := by
  have raised (u : State) : Carried u (restartOver (raiseThermalAgain g u)) ∧
      (u.budgetStands → (restartOver (raiseThermalAgain g u)).budgetStands) :=
    ⟨(raiseThermalAgain_kept g u).toCarried.trans (restartOver_carried _), (raiseThermalAgain_kept g u).budget⟩
  have joined {u : State} (carried : Carried (loadImage g s) u)
      (budget : (loadImage g s).budgetStands → u.budgetStands) :
      Settled (loadImage g s) (enterJoining (beginLine g.rate .normal u)) := by
    have line := (beginLine_alike g.rate .normal u).kept
    have entered := enterJoining_settled (beginLine g.rate .normal u)
    exact ⟨(carried.trans line.toCarried).trans entered.toCarried, fun b => entered.power (line.budget (budget b))⟩
  unfold goodImage
  dsimp only
  split_ifs
  exacts [joined (raised _).1 (raised _).2, joined (.refl _) id]

theorem noImage_budgetStands {s : State} (setting : s.nc.setting = none) (budget : s.ca.budget = 0) :
    s.budgetStands := by
  have noBudget : s.bCfg = 0 := by rw [State.bCfg, setting]; rfl
  rw [State.budgetStands, noBudget, budget]
  exact (Nat.div_eq_of_lt (by simp)).symm

/-- After a bad image the laws are carried to Unconfigured (R160). -/
theorem badImage_settled (s : State) : Settled (unloadImage s) (badImage s) := by
  have cooled := setIntake_carried (unloadImage s) { (unloadImage s).mi with derate := 0, mute := false }
  have raised := raiseFault_kept (.plain .cfg) none
    { unloadImage s with mi := { (unloadImage s).mi with derate := 0, mute := false } }
  have line := (beginLine_alike .kbit250 .normal (restartOver (raiseFault (.plain .cfg) none
    { unloadImage s with mi := { (unloadImage s).mi with derate := 0, mute := false } }))).kept
  have carried := (cooled.trans raised.toCarried).trans ((restartOver_carried _).trans line.toCarried)
  have entered := enterUnconfigured_settled (carried.setting.trans rfl)
  exact ⟨carried.trans entered.toCarried,
    fun _ => entered.power (line.budget (raised.budget (noImage_budgetStands rfl rfl)))⟩

/-! ## The trims after an entry -/

/-- An entry that puts the trims to 0 leaves them so through off flags and pass (R22). -/
theorem stateChanged_zeroTrims (s : State) (k : Slot) :
    ((stateChanged (zeroTrims s)).ca.slots.get k).bias = 0 ∧ ((stateChanged (zeroTrims s)).ca.slots.get k).fill = 0 := by
  rw [stateChanged, alarm_ca, pass_slot, evaluateOff_slot, zeroTrims_slot]
  exact ⟨rfl, rfl⟩

theorem enterJoining_trims (s : State) (k : Slot) :
    ((enterJoining s).ca.slots.get k).bias = 0 ∧ ((enterJoining s).ca.slots.get k).fill = 0 := by
  have table : (enterJoining s).ca = (stateChanged (zeroTrims { s with nc := { s.nc with state := some .joining } })).ca := by
    unfold enterJoining
    dsimp only
    split <;> simp only [startBeaconTimer_ca, startSampleTimer_ca]
  rw [table]
  exact stateChanged_zeroTrims _ k

theorem goodImage_trims (g : Setting) (s : State) (k : Slot) :
    ((goodImage g s).ca.slots.get k).bias = 0 ∧ ((goodImage g s).ca.slots.get k).fill = 0 := by
  unfold goodImage
  exact enterJoining_trims _ k

theorem badImage_trims (s : State) (k : Slot) :
    ((badImage s).ca.slots.get k).bias = 0 ∧ ((badImage s).ca.slots.get k).fill = 0 := by
  unfold badImage enterUnconfigured
  dsimp only
  rw [startBeaconTimer_ca]
  exact stateChanged_zeroTrims _ k

/-! ## What a step can do -/

/-- The state at the begin of a round (R116). -/
def roundBegins (g : Setting) (s : State) : State :=
  { s with su := { roundTimer := s.timerFor (g.tRound * 1000), round := some (roundOf (s.takeReading g)) } }

/-- A step keeps the laws, or does so from the state after reset; or an image read ends, or a round begins or is
committed. -/
inductive StepResult (s t : State) : Prop
  | kept (h : Kept s t)
  | reset (h : Kept State.reset t)
  | good (u : State) (image : List Byte) (alike : Alike s u) (reading : s.nc.reading.isSome = true)
    (result : t = goodImage (settingOf image) u)
  | bad (u : State) (alike : Alike s u) (reading : s.nc.reading.isSome = true) (result : t = badImage u)
  | begins (u : State) (g : Setting) (alike : Alike s u) (held : u.nc.setting = some g) (result : t = roundBegins g u)
  | commits (u : State) (r : Round) (alike : Alike s u) (flies : u.su.round = some r) (result : t = commit r u)

theorem settingImageReadEnd_result {bytes : List Byte} {s t : State}
    (h : exec (.settingImageReadEnd bytes) s = .next t) : StepResult s t := by
  rcases unlessHeld_next s _ with hn | hn <;> rw [exec, execSettingImageReadEnd, hn] at h <;>
    obtain rfl := Host.Outcome.next.inj h
  · exact .kept (.refl s)
  · cases reading : s.nc.reading with
    | none => exact .kept (.refl s)
    | some began =>
      have began_reading : s.nc.reading.isSome = true := by rw [reading]; rfl
      have closed (u : State) (nc : Control) (alike : Alike s u) (setting : nc.setting = u.nc.setting)
          (state : nc.state = u.nc.state) (restart : nc.restart = u.nc.restart) : Alike s { u with nc := nc } :=
        alike.trans (setControl_alike u nc state setting (by rw [restart]))
      dsimp only
      split
      · refine .bad _ ?_ began_reading rfl
        exact closed _ _ ((closed s { s.nc with reading := none } (.refl s) rfl rfl rfl).trans (reach_alike _ _)) rfl rfl rfl
      · split_ifs
        · refine .good _ _ ?_ began_reading rfl
          exact closed _ _ (closed s _ (.refl s) rfl rfl rfl) rfl rfl rfl
        · refine .bad _ ?_ began_reading rfl
          exact closed _ _ (closed s _ (.refl s) rfl rfl rfl) rfl rfl rfl

theorem roundTimerExpiry_result {s t : State} (h : exec .roundTimerExpiry s = .next t) : StepResult s t := by
  rcases unlessHeld_next s _ with hn | hn <;> rw [exec, execRoundTimerExpiry, hn] at h <;>
    obtain rfl := Host.Outcome.next.inj h
  · exact .kept (.refl s)
  · split
    · rename_i due g _ held
      exact .begins (s.reach due) g (reach_alike due s) held rfl
    · exact .kept (.refl s)

theorem roundCommit_result {s t : State} (h : exec .roundCommit s = .next t) : StepResult s t := by
  rcases unlessHeld_next s _ with hn | hn <;> rw [exec, execRoundCommit, hn] at h <;>
    obtain rfl := Host.Outcome.next.inj h
  · exact .kept (.refl s)
  · split
    · exact .kept (.refl s)
    · rename_i r flies
      exact .commits s r (.refl s) flies rfl

/-- The six rows of a command's handover keep the laws. -/
theorem handOver_kept {code : Nat} {answer : Frame → State → Answer} {s t : State}
    (h : unlessHeld s (handOverCode code answer s) = .next t) (kept : ∀ f u, Kept u (answer f u).state) : Kept s t :=
  kept_of_unlessHeld h (handOverCode_kept code kept s)

theorem exec_result {c : Instr} {s t : State} (h : exec c s = .next t) : StepResult s t := by
  cases c with
  | fullReset straps => exact .reset (fullReset_kept h)
  | resetInputAsserted => exact .reset (resetInputAsserted_kept h)
  | settingImageReadEnd bytes => exact settingImageReadEnd_result h
  | roundTimerExpiry => exact roundTimerExpiry_result h
  | roundCommit => exact roundCommit_result h
  | measurementFrame bits => exact .kept (measurementFrame_kept h)
  | levelFrameSent => exact .kept (levelFrameSent_kept h)
  | sampleTimerExpiry => exact .kept (sampleTimerExpiry_kept h)
  | holdOffExpiry slot => exact .kept (holdOffExpiry_kept h)
  | cleanRunExpiry slot => exact .kept (cleanRunExpiry_kept h)
  | joinTimerExpiry => exact .kept (joinTimerExpiry_kept h)
  | staleDeadline address => exact .kept (staleDeadline_kept h)
  | silentDeadline address => exact .kept (silentDeadline_kept h)
  | goneDeadline address => exact .kept (goneDeadline_kept h)
  | beaconTimerExpiry => exact .kept (beaconTimerExpiry_kept h)
  | coolDownExpiry => exact .kept (coolDownExpiry_kept h)
  | peerFrameReceived line othersHold => exact .kept (peerFrameReceived_kept h)
  | transmissionStart recessive => exact .kept (transmissionStart_kept h)
  | arbitrationLost position readBack => exact .kept (arbitrationLost_kept h)
  | bitError position readBack ack hold => exact .kept (bitError_kept h)
  | transmitFrameEnd ack hold => exact .kept (transmitFrameEnd_kept h)
  | bitErrorSettle recessive => exact .kept (bitErrorSettle_kept h)
  | breakDetected => exact .kept (breakDetected_kept h)
  | breakEnd => exact .kept (breakEnd_kept h)
  | beaconApply => exact .kept (beaconApply_kept h)
  | commandHandover => exact .kept (commandHandover_kept h)
  | frameDrop => exact .kept (frameDrop_kept h)
  | identify => exact .kept (handOver_kept h fun _ u => .refl u)
  | ackFaults => exact .kept (handOver_kept h fun _ u => answerAckFaults_kept _ u)
  | clearTrip => exact .kept (handOver_kept h fun _ u => answerClearTrip_kept _ u)
  | restore => exact .kept (handOver_kept h fun _ u => answerRestore_kept u)
  | restart => exact .kept (handOver_kept h fun _ u => answerRestart_kept u)
  | dump => exact .kept (handOver_kept h answerDump_kept)
  | replyEnqueue => exact .kept (replyEnqueue_kept h)
  | streamFrameBuild => exact .kept (streamFrameBuild_kept h)
  | softRestartBegin => exact .kept (softRestartBegin_kept h)

/-- What a step can do, from the state with the command that runs still in the queue or taken from it. -/
theorem step_result {s t : State} (h : step s = .next t) :
    ∃ u, Alike s u ∧ u.nc = s.nc ∧ u.su = s.su ∧ StepResult u t := by
  unfold step at h
  split at h
  · obtain rfl := Host.Outcome.next.inj h
    refine ⟨s, .refl s, rfl, rfl, .kept ?_⟩
    unfold State.tick
    split_ifs
    exacts [.refl s, (Alike.of_blocks rfl rfl rfl rfl rfl : Alike s { s with now := s.now + 1 }).kept]
  · rename_i c rest _
    exact ⟨{ s with pending := rest }, .of_blocks rfl rfl rfl rfl rfl, rfl, rfl, exec_result h⟩

/-! ## The commit of a round -/

/-- The Carriage Allocator's slots after the decided trims are taken over (R118 step 1). -/
def trimsCommitted (r : Round) (s : State) : State :=
  { s with ca := { s.ca with slots := .tabulate fun k => (s.ca.slots.get k).commit (r.decided.get k) } }

/-- The round in flight is over (R118 step 3). -/
def roundOver (s : State) : State := { s with su := { s.su with round := none } }

theorem commit_eq (r : Round) (s : State) : commit r s = roundOver (pass (trimsCommitted r s)) := by
  unfold commit roundOver trimsCommitted
  dsimp only

theorem roundOver_powerLaw {s : State} (h : PowerLaw s) : PowerLaw (roundOver s) := h

theorem roundOver_ca (s : State) : (roundOver s).ca = s.ca := rfl

theorem roundOver_fr (s : State) : (roundOver s).fr = s.fr := rfl

theorem roundOver_round (s : State) : (roundOver s).su.round = none := rfl

/-- A commit changes bias and fill of a slot and nothing else. -/
theorem slotCommit_eq (decided : Option Trims) (r : SlotRecord) :
    r.commit decided = { r with bias := (r.commit decided).bias, fill := (r.commit decided).fill } := by
  unfold SlotRecord.commit
  split_ifs <;> rfl

theorem slotCommit_trims (decided : Option Trims) (r : SlotRecord) :
    ((r.commit decided).bias = r.bias ∧ (r.commit decided).fill = r.fill) ∨
      ((r.commit decided).bias = 0 ∧ (r.commit decided).fill = 0) ∨
      ∃ d ∈ decided, (r.commit decided).bias = d.bias ∧ (r.commit decided).fill = d.fill := by
  unfold SlotRecord.commit
  split_ifs
  · cases decided with
    | none => exact .inl ⟨rfl, rfl⟩
    | some d => exact .inr (.inr ⟨d, rfl, rfl, rfl⟩)
  · exact .inr (.inl ⟨rfl, rfl⟩)
  · exact .inl ⟨rfl, rfl⟩

theorem trimsCommitted_slot (r : Round) (s : State) (k : Slot) :
    (trimsCommitted r s).ca.slots.get k = (s.ca.slots.get k).commit (r.decided.get k) := by
  rw [trimsCommitted, Six.get_tabulate]

theorem trimsCommitted_offFlagsStand {r : Round} {s : State} (h : s.offFlagsStand) :
    (trimsCommitted r s).offFlagsStand := by
  intro k
  have off : (trimsCommitted r s).offNow k = s.offNow k := by
    rw [State.offNow, State.offNow, trimsCommitted_slot, slotCommit_eq]
    rfl
  rw [off, trimsCommitted_slot, slotCommit_eq]
  exact h k

theorem trimsCommitted_portSound {r : Round} {s : State} (h : s.ca.portSound) : (trimsCommitted r s).ca.portSound :=
  portSound_of_samePort (ca := s.ca) rfl rfl rfl (fun k => by rw [trimsCommitted_slot, slotCommit_eq]) h

theorem commit_slot (r : Round) (s : State) (k : Slot) :
    (commit r s).ca.slots.get k = (pass (trimsCommitted r s)).ca.slots.get k := by
  rw [commit_eq, roundOver_ca]

theorem commit_powerLaw {r : Round} {s : State} (off : s.offFlagsStand) (budget : s.budgetStands) :
    PowerLaw (commit r s) := by
  rw [commit_eq]
  exact roundOver_powerLaw (powerLaw_pass (trimsCommitted_offFlagsStand off) budget)

theorem commit_portSound {r : Round} {s : State} (h : s.ca.portSound) : (commit r s).ca.portSound := by
  rw [commit_eq, roundOver_ca]
  exact pass_portSound (trimsCommitted_portSound h)

theorem trimsCommitted_mask (r : Round) (s : State) : (trimsCommitted r s).fr.mask = s.fr.mask := rfl

theorem commit_mask (r : Round) (s : State) : (commit r s).fr.mask = s.fr.mask := by
  rw [commit_eq, roundOver_fr, pass_mask, trimsCommitted_mask]

theorem commit_round (r : Round) (s : State) : (commit r s).su.round = none := by
  rw [commit_eq, roundOver_round]

theorem commit_image (r : Round) (s : State) (k : Slot) :
    ((commit r s).ca.slots.get k).image = (s.ca.slots.get k).image := by
  rw [commit_slot, (pass_carried _).image, trimsCommitted_slot, slotCommit_eq]
  rfl

theorem commit_trims (r : Round) (s : State) (k : Slot) :
    ((commit r s).ca.slots.get k).bias = ((s.ca.slots.get k).commit (r.decided.get k)).bias ∧
      ((commit r s).ca.slots.get k).fill = ((s.ca.slots.get k).commit (r.decided.get k)).fill := by
  rw [commit_slot, pass_slot, trimsCommitted_slot]
  exact ⟨rfl, rfl⟩

/-! ## The laws carried along -/

theorem Alike.toCarried {s t : State} (h : Alike s t) : Carried s t := h.kept.toCarried

theorem settingLaw_of_same {s t : State} (image : ∀ k, (t.ca.slots.get k).image = (s.ca.slots.get k).image)
    (setting : t.nc.setting = s.nc.setting) (mask : t.fr.mask = s.fr.mask) (law : SettingLaw s) : SettingLaw t := by
  unfold SettingLaw at law ⊢
  rw [setting, mask]
  split at law
  · obtain ⟨slots, unmasked⟩ := law
    refine ⟨fun k => ?_, unmasked⟩
    rw [unloaded_iff, image]
    exact (unloaded_iff _).mp (slots k)
  · obtain ⟨slots, masked, bounds⟩ := law
    refine ⟨fun k => ?_, masked, bounds⟩
    rw [loaded_iff, image]
    exact (loaded_iff _ _ _).mp (slots k)

theorem Carried.settingLaw {s t : State} (h : Carried s t) (law : SettingLaw s) : SettingLaw t :=
  settingLaw_of_same h.image h.setting h.mask law

theorem trimsAllowed_zero (held : Option Setting) : trimsAllowed held 0 0 :=
  ⟨.inl rfl, Nat.zero_le _, Nat.zero_le _, fun _ _ => ⟨Nat.zero_le _, Nat.zero_le _⟩⟩

theorem Carried.trimLaw {s t : State} (h : Carried s t) (law : TrimLaw s) : TrimLaw t := by
  obtain ⟨slots, round, bounds⟩ := law
  unfold TrimLaw
  rw [h.setting]
  refine ⟨fun k => ?_, fun r flies => ?_, bounds⟩
  · rcases h.trims k with ⟨bias, fill⟩ | ⟨bias, fill⟩ <;> rw [bias, fill]
    exacts [slots k, trimsAllowed_zero _]
  · rcases h.round with same | none
    · exact round r (same ▸ flies)
    · rw [none] at flies
      cases flies

/-- With all trims 0 and no round in flight only the bounds of the setting are left to show. -/
theorem trimLaw_of_zero {t : State} (trims : ∀ k, (t.ca.slots.get k).bias = 0 ∧ (t.ca.slots.get k).fill = 0)
    (round : t.su.round = none) (bounds : ∀ g ∈ t.nc.setting, g.biasMax ≤ 12 ∧ g.fillMax ≤ 6) : TrimLaw t := by
  refine ⟨fun k => ?_, fun r flies => ?_, bounds⟩
  · obtain ⟨bias, fill⟩ := trims k
    rw [bias, fill]
    exact trimsAllowed_zero _
  · rw [round] at flies
    cases flies

/-! ## The decisions of a round -/

/-- Case 6 keeps a bias or moves it by one step, up only as far as bias_max (R127). -/
theorem compareBias_le (g : Reading) (r : ReadSlot) : compareBias g r ≤ max r.bias g.params.biasMax := by
  unfold compareBias
  dsimp only
  split_ifs <;> omega

/-- Every case of a decision stays within what bias_max and fill_max allow (R120 to R127). -/
theorem decideSlot_allowed {g : Reading} {r : ReadSlot} {held : Setting}
    (params : g.params.biasMax = held.biasMax ∧ g.params.fillMax = held.fillMax)
    (bounds : held.biasMax ≤ 12 ∧ held.fillMax ≤ 6) (now : trimsAllowed (some held) r.bias r.fill) :
    trimsAllowed (some held) (decideSlot g r).bias (decideSlot g r).fill := by
  obtain ⟨exclusive, -, -, within⟩ := now
  obtain ⟨bias, fill⟩ := within held rfl
  have compared := compareBias_le g r
  unfold decideSlot
  refine ⟨?_, ?_, ?_, fun g' same => ?_⟩
  · split_ifs <;> dsimp only <;> omega
  · split_ifs <;> dsimp only <;> omega
  · split_ifs <;> dsimp only <;> omega
  · obtain rfl := Option.some.inj same
    split_ifs <;> dsimp only <;> omega

theorem roundOf_decided (g : Reading) (k : Slot) :
    (roundOf g).decided.get k = (g.slots.get k).map (decideSlot g) := Six.get_map _ _ _

theorem takeReading_slot (s : State) (g : Setting) (k : Slot) :
    (s.takeReading g).slots.get k = (s.ca.slots.get k).read := Six.get_map _ _ _

/-- The round that begins decides allowed trims for every slot it reads (R116, R120). -/
theorem roundBegins_trimLaw {g : Setting} {s : State} (held : s.nc.setting = some g) (law : TrimLaw s) :
    TrimLaw (roundBegins g s) := by
  obtain ⟨slots, -, bounds⟩ := law
  refine ⟨slots, fun r flies k d decides => ?_, bounds⟩
  obtain rfl := Option.some.inj flies
  rw [roundOf_decided, takeReading_slot] at decides
  obtain ⟨read, reads, rfl⟩ := Option.map_eq_some_iff.mp decides
  have trims : read.bias = (s.ca.slots.get k).bias ∧ read.fill = (s.ca.slots.get k).fill := by
    unfold SlotRecord.read at reads
    split_ifs at reads
    obtain rfl := Option.some.inj reads
    exact ⟨rfl, rfl⟩
  have now := slots k
  rw [← trims.1, ← trims.2, held] at now
  rw [show (roundBegins g s).nc.setting = some g from held]
  exact decideSlot_allowed ⟨rfl, rfl⟩ (bounds g held) now

theorem commit_trimLaw {r : Round} {s : State} (flies : s.su.round = some r) (law : TrimLaw s) :
    TrimLaw (commit r s) := by
  obtain ⟨slots, round, bounds⟩ := law
  unfold TrimLaw
  rw [commit_nc, commit_round]
  refine ⟨fun k => ?_, (fun _ none => nomatch none), bounds⟩
  obtain ⟨bias, fill⟩ := commit_trims r s k
  rw [bias, fill]
  rcases slotCommit_trims (r.decided.get k) (s.ca.slots.get k) with ⟨b, f⟩ | ⟨b, f⟩ | ⟨d, decided, b, f⟩ <;> rw [b, f]
  exacts [slots k, trimsAllowed_zero _, round r flies k d decided]

/-! ## The laws -/

/-- Settles O6, by what a step can do: each work that touches requests, grants or off flags closes with a pass, after which the
law stands. -/
theorem powerLawKept : Obligations.PowerLawKept := by
  intro s t law h
  obtain ⟨u, taken, -, -, result⟩ := step_result h
  have power : PowerLaw u := taken.powerLaw law
  cases result with
  | kept h => exact h.power power
  | reset h => exact h.power reset_powerLaw
  | good v image _ _ result =>
    rw [result]
    exact (goodImage_settled _ v).power (loadImage_budgetStands _ v)
  | bad v _ _ result =>
    rw [result]
    exact (badImage_settled v).power (unloadImage_budgetStands v)
  | begins v g alike _ result =>
    rw [result]
    exact alike.powerLaw power
  | commits v r alike _ result =>
    obtain ⟨-, off, budget⟩ := alike.powerLaw power
    rw [result]
    exact commit_powerLaw off budget

/-- Settles O7, by what a step can do: every level goes out by one hand-over, which keeps the port's law. -/
theorem levelPortLawKept : Obligations.LevelPortLawKept := by
  intro s t law h
  obtain ⟨u, taken, -, -, result⟩ := step_result h
  have port : u.ca.portSound := taken.port law
  rw [levelPortLaw_iff]
  cases result with
  | kept h => exact h.port port
  | reset h => exact h.port reset_portSound
  | good v image alike _ result =>
    rw [result]
    exact (goodImage_settled _ v).port (loadImage_portSound (alike.port port))
  | bad v alike _ result =>
    rw [result]
    exact (badImage_settled v).port (unloadImage_portSound (alike.port port))
  | begins v g alike _ result =>
    rw [result]
    exact alike.port port
  | commits v r alike _ result =>
    rw [result]
    exact commit_portSound (alike.port port)

/-- No round flies while an image is read: the one is in Serving, the other outside every state or in a restart. -/
theorem noRound_of_reading {s : State} (control : ControlLaw s) (reading : s.nc.reading.isSome = true) :
    s.su.round = none := by
  obtain ⟨-, serves, reads, -⟩ := control
  rw [← Option.not_isSome_iff_eq_none]
  intro flies
  obtain ⟨serving, notRestarting⟩ := serves (.inl flies)
  rcases reads reading with outside | restarting
  · rw [serving] at outside
    cases outside
  · exact notRestarting restarting

/-- Settles O8, by what a step can do: trims stay or fall to 0, but for the commit of what a round decided within bounds. -/
theorem trimLawKept : Obligations.TrimLawKept := by
  intro s t law control h
  obtain ⟨u, taken, nc, su, result⟩ := step_result h
  have trims : TrimLaw u := taken.toCarried.trimLaw law
  have noRound {v w t : State} (reading : u.nc.reading.isSome = true) (alike : Alike u v) (same : w.su = v.su)
      (carried : Carried w t) : t.su.round = none := by
    have none : w.su.round = none := by
      rw [same, alike.round, su]
      exact noRound_of_reading control (nc ▸ reading)
    rcases carried.round with kept | gone
    exacts [kept.trans none, gone]
  cases result with
  | kept h => exact h.trimLaw trims
  | reset h => exact h.trimLaw reset_trimLaw
  | good v image alike reading result =>
    rw [result]
    have loaded := (goodImage_settled (settingOf image) v).toCarried
    refine trimLaw_of_zero (goodImage_trims _ v) ?_ ?_
    · exact noRound (w := loadImage _ v) reading alike rfl loaded
    · rw [loaded.setting]
      rintro g ⟨⟩
      exact settingOf_trim_bounds image
  | bad v alike reading result =>
    rw [result]
    have unloaded := (badImage_settled v).toCarried
    refine trimLaw_of_zero (badImage_trims v) ?_ ?_
    · exact noRound (w := unloadImage v) reading alike rfl unloaded
    · rw [unloaded.setting]
      rintro g ⟨⟩
  | begins v g alike held result =>
    rw [result]
    exact roundBegins_trimLaw held (alike.toCarried.trimLaw trims)
  | commits v r alike flies result =>
    rw [result]
    exact commit_trimLaw flies (alike.toCarried.trimLaw trims)

/-- Settles O9, by what a step can do: only the end of an image read changes the image held and the fields derived from it. -/
theorem settingLawKept : Obligations.SettingLawKept := by
  intro s t law h
  obtain ⟨u, taken, -, -, result⟩ := step_result h
  have settings : SettingLaw u := taken.toCarried.settingLaw law
  cases result with
  | kept h => exact h.settingLaw settings
  | reset h => exact h.settingLaw reset_settingLaw
  | good v image _ _ result =>
    have settled := goodImage_settled (settingOf image) v
    rw [← result] at settled
    exact settled.settingLaw (loadImage_settingLaw image v)
  | bad v _ _ result =>
    have settled := badImage_settled v
    rw [← result] at settled
    exact settled.settingLaw (unloadImage_settingLaw v)
  | begins v g alike _ result =>
    rw [result]
    exact alike.toCarried.settingLaw settings
  | commits v r alike _ result =>
    have image := commit_image r v
    have held : (commit r v).nc.setting = v.nc.setting := by rw [commit_nc]
    have mask := commit_mask r v
    rw [← result] at image held mask
    exact settingLaw_of_same image held mask (alike.toCarried.settingLaw settings)

end Sys2Proof.Machine
end

section
/-! SUPPORT. The release of a tripped slot at its hold-off expiry (R51) and by CLEAR_TRIP (R57, R173), each closed by off
flags and a pass. -/

namespace Sys2Proof.Machine

/-! ## Off flags and a pass -/

/-- Off flags and a pass leave the slots' trips, trims and loads. -/
theorem reallot_slot (s : State) (k : Slot) :
    ((pass (evaluateOff s)).ca.slots.get k).trip = (s.ca.slots.get k).trip ∧
    ((pass (evaluateOff s)).ca.slots.get k).bias = (s.ca.slots.get k).bias ∧
    ((pass (evaluateOff s)).ca.slots.get k).fill = (s.ca.slots.get k).fill ∧
    ((pass (evaluateOff s)).ca.slots.get k).load = (s.ca.slots.get k).load := by
  rw [pass_slot, evaluateOff_slot]
  exact ⟨rfl, rfl, rfl, rfl⟩

/-- Off flags and a pass leave the slots' counts and hold-off timers. -/
theorem reallot_guard (s : State) (k : Slot) :
    ((pass (evaluateOff s)).pm.slots.get k).filter = (s.pm.slots.get k).filter ∧
    ((pass (evaluateOff s)).pm.slots.get k).retry = (s.pm.slots.get k).retry ∧
    ((pass (evaluateOff s)).pm.slots.get k).holdOff = (s.pm.slots.get k).holdOff := by
  rw [pass_guard, evaluateOff_pm]
  exact ⟨rfl, rfl, rfl⟩

theorem reallot_antenna (s : State) :
    (pass (evaluateOff s)).pm.antLatch = s.pm.antLatch ∧ (pass (evaluateOff s)).pm.antFilter = s.pm.antFilter := by
  rw [pass_pm, evaluateOff_pm]
  exact ⟨rfl, rfl⟩

theorem reallot_isActive {k : Key} (s : State) (h : k ≠ .plain .flr) :
    (pass (evaluateOff s)).fr.isActive k = s.fr.isActive k := by
  rw [pass_isActive _ h, evaluateOff_fr]

theorem reallot_budget (s : State) : (pass (evaluateOff s)).ca.budget = s.ca.budget := by
  rw [pass_budget, evaluateOff_budget]

theorem reallot_stands (s : State) : (pass (evaluateOff s)).offFlagsStand := pass_keeps_off _ (evaluateOff_stands s)

theorem reallot_frame (s : State) : pass (evaluateOff s) =
    { s with
      ca := (pass (evaluateOff s)).ca
      pm := (pass (evaluateOff s)).pm
      lc := (pass (evaluateOff s)).lc
      fr := (pass (evaluateOff s)).fr } := by
  apply State.ext_blocks <;> simp

/-! ## Release at the hold-off expiry -/

/-- The slot Clear, its retry count raised, its hold-off timer stopped, its OVD record cleared (R51). -/
def slotReleased (k : Slot) (s : State) : State :=
  clearRecord (.ofSlot .ovd k)
    { s with
      pm := { s.pm with slots := s.pm.slots.modify k fun p => { p with retry := p.retry + 1, holdOff := .stopped } }
      ca := { s.ca with slots := s.ca.slots.modify k fun r => { r with trip := .clear } } }

theorem release_eq (k : Slot) (s : State) : release k s = pass (evaluateOff (slotReleased k s)) := by
  unfold release slotReleased
  dsimp only

theorem slotReleased_slot (k j : Slot) (s : State) :
    (slotReleased k s).ca.slots.get j =
      { s.ca.slots.get j with trip := if j = k then .clear else (s.ca.slots.get j).trip } := by
  simp only [slotReleased, clearRecord_ca, Six.get_modify]
  split_ifs <;> rfl

theorem slotReleased_guard (k j : Slot) (s : State) :
    (slotReleased k s).pm.slots.get j =
      if j = k then { s.pm.slots.get j with retry := (s.pm.slots.get j).retry + 1, holdOff := .stopped }
      else s.pm.slots.get j := by
  simp only [slotReleased, clearRecord_pm, Six.get_modify]

/-- Settles O34, by what off flags and a pass leave of the released slot. -/
theorem holdOffExpiryReleasesSlot : Obligations.HoldOffExpiryReleasesSlot := by
  intro k s due acts runs
  have result : exec (.holdOffExpiry k) s = .next (pass (evaluateOff (slotReleased k (s.reach due)))) := by
    rw [exec, execHoldOffExpiry, unlessHeld_acts acts, runs, ← release_eq]
  have slot := reallot_slot (slotReleased k (s.reach due))
  have guard := reallot_guard (slotReleased k (s.reach due))
  have clear := reallot_isActive (slotReleased k (s.reach due)) (k := .ofSlot .ovd k) (by simp [Key.ofSlot, Key.plain])
  have allotted := pass_allotted (evaluateOff (slotReleased k (s.reach due)))
  have stands := reallot_stands (slotReleased k (s.reach due))
  have budget := reallot_budget (slotReleased k (s.reach due))
  have frame := reallot_frame (slotReleased k (s.reach due))
  simp only [slotReleased_slot, slotReleased_guard, reach_ca, reach_pm] at slot guard
  generalize pass (evaluateOff (slotReleased k (s.reach due))) = t at *
  refine ⟨t, result, ?_, ?_, ?_, ?_, ?_, fun j other => ?_, fun j => ?_, allotted, stands, budget, ?_⟩
  · rw [frame]
    rfl
  · rw [(slot k).1, if_pos rfl]
  · rw [(guard k).2.1, if_pos rfl]
  · rw [(guard k).2.2, if_pos rfl]
  · rw [clear]
    exact clear_inactive _ _ _
  · obtain ⟨trip, -⟩ := slot j
    obtain ⟨-, retry, holdOff⟩ := guard j
    rw [trip, retry, holdOff, if_neg other, if_neg other]
    exact ⟨rfl, rfl, rfl⟩
  · obtain ⟨-, bias, fill, load⟩ := slot j
    obtain ⟨filter, -⟩ := guard j
    refine ⟨bias, fill, load, ?_⟩
    rw [filter]
    split_ifs <;> rfl
  · rw [frame]
    rfl

/-! ## Command handover -/

theorem headHeld_command {s : State} {f : Frame} (idle : s.cu.current = none) (h : f.kind = 2) :
    s.headHeld f = false := by
  simp [State.headHeld, idle, h]

/-- The state in which a command is executed: its frame is taken from the Receive Queue (R168). -/
def headTaken (rest : List Frame) (s : State) : State := { s with lc := { s.lc with rxQueue := rest } }

/-- A command from a monitor station at the head is taken from the queue and answered (R83, R168). -/
theorem handOverCode_at {s : State} {f : Frame} {rest : List Frame} {code : Nat} (answer : Frame → State → Answer)
    (h : s.commandAtHead f rest code) :
    handOverCode code answer s = offerReply f (answer f (headTaken rest s)) := by
  obtain ⟨-, queue, kind, own, single, length, named, monitor, notOwn, idle, restart⟩ := h
  have free : s.freeHead = some f := by
    simp [State.freeHead, queue, headHeld_command idle kind, State.restarting, restart]
  have taken : s.handsOver f = true := by
    simp only [State.handsOver, kind, length, decide_true, State.ownAddress, ← own, beq_self_eq_true, Bool.and_true]
    simpa using single
  have head : dropHead s = headTaken rest s := by
    rw [dropHead, queue, List.tail_cons, headTaken]
  have own : ¬ (f.source = 0 ∨ f.source = (dropHead s).ownAddress) := by
    rintro (zero | own)
    · omega
    · exact notOwn own
  rw [handOverCode, free]
  dsimp only
  rw [if_pos ⟨taken, named⟩, takeCommand, if_neg own, if_neg (by omega), head]

/-- A reply on which no restart waits is dropped in Listen-only, and waits in the Command Unit in the other modes (R90,
R168). -/
theorem offerReply_waits {f : Frame} {a : Answer} (restart : a.restart = false) (idle : a.state.cu.current = none) :
    offerReply f a =
      { a.state with
        cu :=
          { a.state.cu with
            current := replyWaiting a.state.lc.mode f a.status.code a.data false a.stream } } := by
  obtain ⟨t, status, data, _, stream⟩ := a
  obtain rfl : _ = false := restart
  unfold offerReply replyWaiting
  dsimp only at idle ⊢
  by_cases mode : t.lc.mode = .listenOnly
  · rw [if_pos mode, if_pos mode, if_neg Bool.false_ne_true, ← idle]
  · rw [if_neg mode, if_neg mode]
    rfl

/-! ## The target of CLEAR_TRIP -/

/-- The slots of a target (R173). -/
def targetSlots (target : Nat) : List Slot := Slot.all.filter fun k => target == 0 || target == k.number

theorem mem_targetSlots {target : Nat} {k : Slot} : k ∈ targetSlots target ↔ target = 0 ∨ target = k.number := by
  simp [targetSlots, k.mem_all]

theorem clearTarget_eq {target : Nat} (s : State) (h : target ≤ 7) :
    clearTarget target s =
      if target = 0 ∨ target = 7 then clearAntenna ((targetSlots target).foldl clearSlotTrip s)
      else (targetSlots target).foldl clearSlotTrip s := by
  interval_cases target <;> rfl

/-- The guard of a slot whose trip is cleared (R57). -/
def SlotGuard.cleared (g : SlotGuard) : SlotGuard :=
  { g with filter := 0, retry := 0, holdOff := .stopped, cleanRun := .stopped }

/-- A slot that is not Clear is cleared, its guard too, and its OVD and OVL records (R57). -/
theorem clearSlotTrip_tripped {s : State} {k : Slot} (h : (s.ca.slots.get k).trip ≠ .clear) :
    clearSlotTrip s k =
      clearRecord (.ofSlot .ovl k) (clearRecord (.ofSlot .ovd k)
        { s with
          ca := { s.ca with slots := s.ca.slots.modify k fun r => { r with trip := .clear } }
          pm := { s.pm with slots := s.pm.slots.modify k SlotGuard.cleared } }) := by
  rw [clearSlotTrip, if_neg h]
  rfl

theorem clearSlotTrip_clear {s : State} {k : Slot} (h : (s.ca.slots.get k).trip = .clear) : clearSlotTrip s k = s :=
  if_pos h

theorem clearSlotTrip_slot (s : State) (k j : Slot) :
    (clearSlotTrip s k).ca.slots.get j =
      { s.ca.slots.get j with trip := if j = k then .clear else (s.ca.slots.get j).trip } := by
  by_cases clear : (s.ca.slots.get k).trip = .clear
  · rw [clearSlotTrip_clear clear]
    split_ifs with same
    · rw [same, ← clear]
    · rfl
  · rw [clearSlotTrip_tripped clear]
    simp only [clearRecord_ca, Six.get_modify]
    split_ifs <;> rfl

theorem clearSlotTrip_guard (s : State) (k j : Slot) :
    (clearSlotTrip s k).pm.slots.get j =
      if j = k ∧ (s.ca.slots.get j).trip ≠ .clear then (s.pm.slots.get j).cleared else s.pm.slots.get j := by
  by_cases clear : (s.ca.slots.get k).trip = .clear
  · rw [clearSlotTrip_clear clear, if_neg]
    rintro ⟨rfl, tripped⟩
    exact tripped clear
  · rw [clearSlotTrip_tripped clear]
    simp only [clearRecord_pm, Six.get_modify]
    by_cases same : j = k
    · rw [if_pos same, if_pos ⟨same, same ▸ clear⟩]
    · rw [if_neg same, if_neg fun h => same h.1]

theorem clearSlotTrip_antenna (s : State) (k : Slot) :
    (clearSlotTrip s k).pm.antLatch = s.pm.antLatch ∧ (clearSlotTrip s k).pm.antFilter = s.pm.antFilter := by
  unfold clearSlotTrip
  split_ifs <;> exact ⟨rfl, rfl⟩

theorem clearSlotTrip_budget (s : State) (k : Slot) : (clearSlotTrip s k).ca.budget = s.ca.budget := by
  unfold clearSlotTrip
  split_ifs <;> rfl

/-- A clear leaves no further record Active. -/
theorem clear_keeps_inactive {fr : Recorder} {j : Key} (now : Nat) (k : Key) (h : fr.isActive j = false) :
    (fr.clear now k).isActive j = false := by
  by_cases same : j = k
  · rw [same]
    exact clear_inactive fr now k
  · rwa [clear_isActive_other same]

theorem clearSlotTrip_keeps_inactive {s : State} {j : Key} (k : Slot) (h : s.fr.isActive j = false) :
    (clearSlotTrip s k).fr.isActive j = false := by
  unfold clearSlotTrip
  split_ifs
  · exact h
  · exact clear_keeps_inactive _ _ (clear_keeps_inactive _ _ h)

theorem clearSlotTrip_inactive {s : State} {k : Slot} (h : (s.ca.slots.get k).trip ≠ .clear) :
    (clearSlotTrip s k).fr.isActive (.ofSlot .ovd k) = false ∧
      (clearSlotTrip s k).fr.isActive (.ofSlot .ovl k) = false := by
  rw [clearSlotTrip, if_neg h]
  exact ⟨clear_keeps_inactive _ _ (clear_inactive _ _ _), clear_inactive _ _ _⟩

/-- What clearing the trips of a list of slots leaves (R57). -/
structure TripsCleared (l : List Slot) (s t : State) : Prop where
  slots : ∀ j, t.ca.slots.get j =
    { s.ca.slots.get j with trip := if j ∈ l then .clear else (s.ca.slots.get j).trip }
  guards : ∀ j, t.pm.slots.get j =
    if j ∈ l ∧ (s.ca.slots.get j).trip ≠ .clear then (s.pm.slots.get j).cleared else s.pm.slots.get j
  budget : t.ca.budget = s.ca.budget
  quiet : ∀ key, s.fr.isActive key = false → t.fr.isActive key = false
  records : ∀ j ∈ l, (s.ca.slots.get j).trip ≠ .clear →
    t.fr.isActive (.ofSlot .ovd j) = false ∧ t.fr.isActive (.ofSlot .ovl j) = false

theorem clearSlotTrips_clears (l : List Slot) (s : State) : TripsCleared l s (l.foldl clearSlotTrip s) := by
  induction l generalizing s with
  | nil => exact ⟨fun j => by simp, fun j => by simp, rfl, fun _ => id, fun j hj => by simp at hj⟩
  | cons k l ih =>
    obtain ⟨slots, guards, budget, quiet, records⟩ := ih (clearSlotTrip s k)
    simp only [clearSlotTrip_slot, clearSlotTrip_guard] at slots guards records
    rw [List.foldl_cons]
    generalize l.foldl clearSlotTrip (clearSlotTrip s k) = t at *
    refine ⟨fun j => ?_, fun j => ?_, ?_, fun key h => ?_, fun j hj tripped => ?_⟩
    · rw [slots]
      by_cases same : j = k <;> simp [same]
    · rw [guards]
      by_cases same : j = k <;> simp [same]
    · rw [budget, clearSlotTrip_budget]
    · exact quiet key (clearSlotTrip_keeps_inactive k h)
    · by_cases same : j = k
      · subst same
        obtain ⟨ovd, ovl⟩ := clearSlotTrip_inactive tripped
        exact ⟨quiet _ ovd, quiet _ ovl⟩
      · have later : j ∈ l := by simpa [same] using hj
        exact records j later (by simpa [same] using tripped)

theorem clearSlotTrips_antenna (l : List Slot) (s : State) :
    (l.foldl clearSlotTrip s).pm.antLatch = s.pm.antLatch ∧
      (l.foldl clearSlotTrip s).pm.antFilter = s.pm.antFilter := by
  induction l generalizing s with
  | nil => exact ⟨rfl, rfl⟩
  | cons k l ih =>
    obtain ⟨latch, filter⟩ := clearSlotTrip_antenna s k
    rw [List.foldl_cons, ← latch, ← filter]
    exact ih (clearSlotTrip s k)

/-- Clearing the antenna leaves the slots and their guards (R57). -/
theorem TripsCleared.antenna {l : List Slot} {s t : State} (h : TripsCleared l s t) :
    TripsCleared l s (clearAntenna t) := by
  obtain ⟨slots, guards, budget, quiet, records⟩ := h
  unfold clearAntenna
  split_ifs
  · exact ⟨slots, guards, budget, fun key h => clear_keeps_inactive _ _ (quiet key h), fun j hj tripped =>
      (records j hj tripped).imp (clear_keeps_inactive _ _) (clear_keeps_inactive _ _)⟩
  · exact ⟨slots, guards, budget, quiet, records⟩

theorem clearAntenna_clears (s : State) :
    (clearAntenna s).pm.antLatch = false ∧
      (s.pm.antLatch = true → (clearAntenna s).pm.antFilter = 0 ∧ (clearAntenna s).fr.isActive (.plain .ant) = false) := by
  unfold clearAntenna
  split_ifs with latched
  · exact ⟨rfl, fun _ => ⟨rfl, clear_inactive _ _ _⟩⟩
  · exact ⟨by simpa using latched, fun h => absurd h latched⟩

theorem clearTarget_clears {target : Nat} (s : State) (h : target ≤ 7) :
    TripsCleared (targetSlots target) s (clearTarget target s) := by
  rw [clearTarget_eq s h]
  split_ifs
  exacts [(clearSlotTrips_clears _ s).antenna, clearSlotTrips_clears _ s]

theorem clearTarget_antenna {target : Nat} (s : State) (h : target ≤ 7) :
    (target = 0 ∨ target = 7 → (clearTarget target s).pm.antLatch = false ∧
      (s.pm.antLatch = true →
        (clearTarget target s).pm.antFilter = 0 ∧ (clearTarget target s).fr.isActive (.plain .ant) = false)) ∧
    (1 ≤ target → target ≤ 6 → (clearTarget target s).pm.antLatch = s.pm.antLatch) := by
  rw [clearTarget_eq s h]
  obtain ⟨latch, -⟩ := clearSlotTrips_antenna (targetSlots target) s
  refine ⟨fun hit => ?_, fun low high => ?_⟩
  · rw [if_pos hit, ← latch]
    exact clearAntenna_clears _
  · rw [if_neg (by omega), latch]

/-- A pass leaves a stopped clean-run timer stopped where no retry is behind the slot (R52). -/
theorem pass_cleanRun_stopped {s : State} {k : Slot} (retry : (s.pm.slots.get k).retry = 0)
    (stopped : (s.pm.slots.get k).cleanRun = .stopped) : ((pass s).pm.slots.get k).cleanRun = .stopped := by
  rw [pass_cleanRun, State.cleanRunAfter, retry, stopped]
  split_ifs <;> trivial

/-! ## CLEAR_TRIP -/

theorem byteAt_arguments (f : Frame) (i : Nat) : byteAt f.arguments i = byteAt f.payload (i + 2) := by
  simp [byteAt, Frame.arguments, List.getD_eq_getElem?_getD, List.getElem?_drop, Nat.add_comm]

theorem clearTrip_exec {s : State} {f : Frame} {rest : List Frame} (h : s.commandAtHead f rest 3) :
    exec .clearTrip s = .next (offerReply f (answerClearTrip f.arguments (headTaken rest s))) := by
  rw [exec, execClearTrip, unlessHeld_acts h.1, handOverCode_at _ h]

theorem commandAtHead_idle {s : State} {f : Frame} {rest : List Frame} {code : Nat}
    (h : s.commandAtHead f rest code) : s.cu.current = none := by
  obtain ⟨-, -, -, -, -, -, -, -, -, idle, -⟩ := h
  exact idle

/-- A command without effect is answered with its status alone (R169). -/
theorem clearTrip_rejected {s : State} {f : Frame} {rest : List Frame} {status : Status} (h : s.commandAtHead f rest 3)
    (rejected : answerClearTrip f.arguments (headTaken rest s) = reject status (headTaken rest s)) :
    exec .clearTrip s =
      .next
        { headTaken rest s with
          cu := { s.cu with current := replyWaiting s.lc.mode f status.code [] false none } } := by
  rw [clearTrip_exec h, rejected, offerReply_waits rfl (commandAtHead_idle h :)]
  rfl

/-- The slots of a target are Clear after CLEAR_TRIP, their guards and records too where they were not (R57). -/
theorem clearTrip_hit {target : Nat} {s : State} {k : Slot} (low : target ≤ 7) (hit : target = 0 ∨ target = k.number) :
    ((pass (evaluateOff (clearTarget target s))).ca.slots.get k).trip = .clear ∧
    ((s.ca.slots.get k).trip ≠ .clear →
      ((pass (evaluateOff (clearTarget target s))).pm.slots.get k).retry = 0 ∧
      ((pass (evaluateOff (clearTarget target s))).pm.slots.get k).filter = 0 ∧
      ((pass (evaluateOff (clearTarget target s))).pm.slots.get k).holdOff = .stopped ∧
      ((pass (evaluateOff (clearTarget target s))).pm.slots.get k).cleanRun = .stopped ∧
      (pass (evaluateOff (clearTarget target s))).fr.isActive (.ofSlot .ovd k) = false ∧
      (pass (evaluateOff (clearTarget target s))).fr.isActive (.ofSlot .ovl k) = false) := by
  obtain ⟨slots, guards, -, -, records⟩ := clearTarget_clears s low
  obtain ⟨filter, retry, holdOff⟩ := reallot_guard (clearTarget target s) k
  refine ⟨?_, fun tripped => ?_⟩
  · rw [(reallot_slot _ k).1, slots, if_pos (mem_targetSlots.mpr hit)]
  · have cleared := guards k
    rw [if_pos ⟨mem_targetSlots.mpr hit, tripped⟩] at cleared
    have stopped := pass_cleanRun_stopped (s := evaluateOff (clearTarget target s)) (k := k)
    rw [evaluateOff_pm, cleared] at stopped
    rw [filter, retry, holdOff, stopped rfl rfl, cleared, reallot_isActive _ (by simp [Key.ofSlot, Key.plain]),
      reallot_isActive _ (by simp [Key.ofSlot, Key.plain])]
    exact ⟨rfl, rfl, rfl, rfl, records k (mem_targetSlots.mpr hit) tripped⟩

/-- CLEAR_TRIP leaves the other slots, and those that are Clear, as they are (R57). -/
theorem clearTrip_missed {target : Nat} {s : State} {k : Slot} (low : target ≤ 7)
    (missed : ¬ (target = 0 ∨ target = k.number) ∨ (s.ca.slots.get k).trip = .clear) :
    ((pass (evaluateOff (clearTarget target s))).ca.slots.get k).trip = (s.ca.slots.get k).trip ∧
    ((pass (evaluateOff (clearTarget target s))).pm.slots.get k).retry = (s.pm.slots.get k).retry ∧
    ((pass (evaluateOff (clearTarget target s))).pm.slots.get k).holdOff = (s.pm.slots.get k).holdOff := by
  obtain ⟨slots, guards, -⟩ := clearTarget_clears s low
  obtain ⟨-, retry, holdOff⟩ := reallot_guard (clearTarget target s) k
  have kept : (clearTarget target s).pm.slots.get k = s.pm.slots.get k := by
    rw [guards, if_neg]
    rintro ⟨hit, tripped⟩
    exact missed.elim (fun h => h (mem_targetSlots.mp hit)) tripped
  refine ⟨?_, by rw [retry, kept], by rw [holdOff, kept]⟩
  rw [(reallot_slot _ k).1, slots]
  rcases missed with other | clear
  · rw [if_neg (mt mem_targetSlots.mp other)]
  · rw [clear, ite_self]

theorem clearTrip_antenna {target : Nat} {s : State} (low : target ≤ 7) :
    (target = 0 ∨ target = 7 → (pass (evaluateOff (clearTarget target s))).pm.antLatch = false ∧
      (s.pm.antLatch = true → (pass (evaluateOff (clearTarget target s))).pm.antFilter = 0 ∧
        (pass (evaluateOff (clearTarget target s))).fr.isActive (.plain .ant) = false)) ∧
    (1 ≤ target → target ≤ 6 → (pass (evaluateOff (clearTarget target s))).pm.antLatch = s.pm.antLatch) := by
  obtain ⟨latch, filter⟩ := reallot_antenna (clearTarget target s)
  rw [latch, filter, reallot_isActive _ (by simp [Key.plain])]
  exact clearTarget_antenna s low

/-- CLEAR_TRIP leaves the line, the Command Unit and the blocks that know no trips as they are. -/
theorem clearTrip_frame (target : Nat) (s : State) :
    pass (evaluateOff (clearTarget target s)) =
      { s with
        ca := (pass (evaluateOff (clearTarget target s))).ca
        pm := (pass (evaluateOff (clearTarget target s))).pm
        lc := (pass (evaluateOff (clearTarget target s))).lc
        fr := (pass (evaluateOff (clearTarget target s))).fr } := by
  apply State.ext_blocks <;> simp

theorem clearTrip_line (target : Nat) (s : State) :
    (pass (evaluateOff (clearTarget target s))).lc.rxQueue = s.lc.rxQueue ∧
      (pass (evaluateOff (clearTarget target s))).lc.mode = s.lc.mode := by
  rw [pass_lc, evaluateOff_rxQueue, evaluateOff_mode, clearTarget_lc]
  exact ⟨rfl, rfl⟩

/-- Settles O55, by the slots and the antenna latch of the target, then off flags and a pass. -/
theorem clearTripClearsTarget : Obligations.ClearTripClearsTarget := by
  intro s f rest head target answered
  have argument : byteAt f.arguments 0 = target := byteAt_arguments f 0
  have missing : f.arguments.length < 1 ↔ f.payload.length < 3 := by
    rw [Frame.arguments, List.length_drop]
    omega
  refine ⟨fun bad => ?_, fun long low unconfigured => ?_, fun long low configured => ?_⟩
  · refine clearTrip_rejected (status := .badArg) head (if_pos ?_)
    rwa [missing, argument]
  · refine clearTrip_rejected (status := .refused) head ?_
    have off : (headTaken rest s).configured = false := unconfigured
    rw [answerClearTrip, if_neg (by rw [missing, argument]; omega), off, if_neg Bool.false_ne_true]
  · have on : (headTaken rest s).configured = true := configured
    have result := clearTrip_exec head
    rw [answerClearTrip, if_neg (by rw [missing, argument]; omega), if_pos on, argument] at result
    have hit (k : Slot) := clearTrip_hit (s := headTaken rest s) (k := k) low
    have missed (k : Slot) := clearTrip_missed (s := headTaken rest s) (k := k) low
    obtain ⟨antenna, otherTarget⟩ := clearTrip_antenna (s := headTaken rest s) low
    have allotted := pass_allotted (evaluateOff (clearTarget target (headTaken rest s)))
    have stands := reallot_stands (clearTarget target (headTaken rest s))
    have budget := (reallot_budget (clearTarget target (headTaken rest s))).trans
      (clearTarget_clears (headTaken rest s) low).budget
    have frame := clearTrip_frame target (headTaken rest s)
    obtain ⟨queue, mode⟩ := clearTrip_line target (headTaken rest s)
    generalize pass (evaluateOff (clearTarget target (headTaken rest s))) = v at *
    have cu : v.cu = s.cu := by
      rw [frame]
      rfl
    have waits := offerReply_waits (f := f) (a := accept [] v) rfl
      ((congrArg Commands.current cu).trans (commandAtHead_idle head))
    refine ⟨_, result, ?_⟩
    rw [waits]
    refine ⟨hit, missed, antenna, otherTarget, allotted, stands, budget, ?_, queue, ?_⟩
    · dsimp only [accept]
      rw [cu, mode]
      rfl
    · dsimp only [accept]
      rw [frame]
      rfl

end Sys2Proof.Machine
end

section
/-! SUPPORT. A measurement frame on which a slot is over-driven (R45 to R50): what the work for other slots and for the
whole node leaves of one slot, and the trip of the slot itself. -/

namespace Sys2Proof.Machine

/-! ## What other work leaves of a slot -/

/-- A level not 0 is the slot's last-sent level, or the last frame on its way carries 0. -/
def State.levelOut (s : State) (k : Slot) : Prop :=
  (s.ca.slots.get k).lastSent ≠ 0 ∨ (s.ca.framesFor k).getLast? = some ⟨k, 0⟩

/-- A slot off Clear after its trip (R19): no grant, no level, off flag set, no clean run. -/
structure Silenced (k : Slot) (s : State) : Prop where
  enabled : (s.ca.slots.get k).enabled = true
  running : s.restarting = false
  trip : (s.ca.slots.get k).trip ≠ .clear
  grant : (s.ca.slots.get k).grant = 0
  lastSent : (s.ca.slots.get k).lastSent = 0
  off : (s.ca.slots.get k).off = true
  cleanRun : (s.pm.slots.get k).cleanRun = .stopped

/-- What work for other slots and for the whole node leaves of a slot, on a frame that arrived in the state `a`: its
trip, its counts and its hold-off timer stay, its fill stays or falls to 0, settle flags set since the arrival stay, its
Active records stay, and a slot silenced stays so. -/
structure Apart (a : State) (k : Slot) (s t : State) : Prop where
  trip : (t.ca.slots.get k).trip = (s.ca.slots.get k).trip
  enabled : (t.ca.slots.get k).enabled = (s.ca.slots.get k).enabled
  fill : (t.ca.slots.get k).fill = (s.ca.slots.get k).fill ∨ (t.ca.slots.get k).fill = 0
  filter : (t.pm.slots.get k).filter = (s.pm.slots.get k).filter
  retry : (t.pm.slots.get k).retry = (s.pm.slots.get k).retry
  holdOff : (t.pm.slots.get k).holdOff = (s.pm.slots.get k).holdOff
  now : t.now = s.now
  restart : t.nc.restart = s.nc.restart
  settle : (a.pm.slots.get k).settle = false → (s.pm.slots.get k).settle = true → (t.pm.slots.get k).settle = true
  antSettle : a.pm.antSettle = false → s.pm.antSettle = true → t.pm.antSettle = true
  records : ∀ r, r.key.slot = some k → r.active = true → (r ∈ t.fr.log ↔ r ∈ s.fr.log)
  level : s.levelOut k → t.levelOut k
  silenced : Silenced k s → Silenced k t

section
variable {a : State} {k : Slot} {s t u : State}

theorem Apart.refl (s : State) : Apart a k s s :=
  ⟨rfl, rfl, .inl rfl, rfl, rfl, rfl, rfl, rfl, fun _ => id, fun _ => id, fun _ _ _ => .rfl, id, id⟩

theorem Apart.trans (h : Apart a k s t) (h' : Apart a k t u) : Apart a k s u where
  trip := h'.trip.trans h.trip
  enabled := h'.enabled.trans h.enabled
  fill := by
    rcases h'.fill with same | zero
    · rw [same]
      exact h.fill
    · exact .inr zero
  filter := h'.filter.trans h.filter
  retry := h'.retry.trans h.retry
  holdOff := h'.holdOff.trans h.holdOff
  now := h'.now.trans h.now
  restart := h'.restart.trans h.restart
  settle arrived set := h'.settle arrived (h.settle arrived set)
  antSettle arrived set := h'.antSettle arrived (h.antSettle arrived set)
  records r slot active := (h'.records r slot active).trans (h.records r slot active)
  level out := h'.level (h.level out)
  silenced hs := h'.silenced (h.silenced hs)

/-- Changes of other slots and of other blocks: the slot's record keeps its fields but for load, trims and flags of the
load, its guard and its frames stay. -/
theorem Apart.of_same
    (slot : t.ca.slots.get k =
      { s.ca.slots.get k with
        load := (t.ca.slots.get k).load
        stale := (t.ca.slots.get k).stale
        full := (t.ca.slots.get k).full
        bias := (t.ca.slots.get k).bias
        fill := (t.ca.slots.get k).fill })
    (fill : (t.ca.slots.get k).fill = (s.ca.slots.get k).fill ∨ (t.ca.slots.get k).fill = 0)
    (frames : t.ca.framesFor k = s.ca.framesFor k) (guard : t.pm.slots.get k = s.pm.slots.get k)
    (antSettle : s.pm.antSettle = true → t.pm.antSettle = true) (now : t.now = s.now)
    (restart : t.nc.restart = s.nc.restart)
    (records : ∀ r, r.key.slot = some k → r.active = true → (r ∈ t.fr.log ↔ r ∈ s.fr.log)) : Apart a k s t where
  trip := by rw [slot]
  enabled := by rw [slot]
  fill := fill
  filter := by rw [guard]
  retry := by rw [guard]
  holdOff := by rw [guard]
  now := now
  restart := restart
  settle _ set := by rwa [guard]
  antSettle _ := antSettle
  records := records
  level out := by
    rw [State.levelOut, slot, frames]
    exact out
  silenced := by
    rintro ⟨enabled, running, trip, grant, lastSent, off, cleanRun⟩
    constructor
    case running => rwa [State.restarting, restart]
    case cleanRun => rwa [guard]
    all_goals rwa [slot]

/-- Changes of blocks that know nothing of the slots. -/
theorem Apart.of_blocks (ca : t.ca = s.ca) (pm : t.pm = s.pm) (fr : t.fr.log = s.fr.log) (now : t.now = s.now)
    (restart : t.nc.restart = s.nc.restart) : Apart a k s t := by
  refine .of_same ?_ (.inl ?_) ?_ ?_ ?_ now restart ?_ <;> simp [ca, pm, fr]

/-! ## The log -/

theorem raiseRecord_apart {key : Key} (x : Option (Int × Int)) (h : key.slot ≠ some k) :
    Apart a k s (raiseRecord key x s) :=
  .of_same rfl (.inl rfl) rfl rfl id rfl rfl fun _ slot active =>
    mem_raise_other (fun same => h (same ▸ slot)) active

theorem clearRecord_apart {key : Key} (h : key.slot ≠ some k) : Apart a k s (clearRecord key s) :=
  .of_same rfl (.inl rfl) rfl rfl id rfl rfl fun _ slot _ => mem_clear_other fun same => h (same ▸ slot)

/-! ## The pass -/

theorem pass_records (r : Record) (slot : r.key.slot = some k) (active : r.active = true) :
    r ∈ (pass s).fr.log ↔ r ∈ s.fr.log := by
  have other : r.key ≠ .plain .flr := fun same => by
    rw [same] at slot
    cases slot
  rw [pass_fr, reportShort]
  split_ifs
  exacts [mem_raise_other other active, mem_clear_other other]

/-- A pass leaves a level not 0 in force, or sends it, or a frame of level 0. -/
theorem pass_levelOut (h : s.levelOut k) : (pass s).levelOut k := by
  by_cases changes : s.passChanges k = true
  · by_cases zero : ((pass s).ca.slots.get k).grant = 0
    · right
      rw [pass_framesFor_last changes, zero]
    · left
      rwa [pass_lastSent]
  · have same : ((pass s).ca.slots.get k).lastSent = (s.ca.slots.get k).lastSent := by
      rw [pass_lastSent, pass_grant]
      simpa [State.passChanges] using changes
    rw [State.levelOut, same, pass_framesFor_idle (by simpa using changes)]
    exact h

theorem participates_of_trip (h : (s.ca.slots.get k).trip ≠ .clear) : s.participates k = false := by
  simp [State.participates, h]

theorem cleanRunAfter_of_silent (h : s.participates k = false) : s.cleanRunAfter k = .stopped := by
  rw [State.cleanRunAfter, h]
  rfl

/-- A pass silences a slot that is off Clear. -/
theorem pass_silenced (enabled : (s.ca.slots.get k).enabled = true) (running : s.restarting = false)
    (trip : (s.ca.slots.get k).trip ≠ .clear) (off : (s.ca.slots.get k).off = true) : Silenced k (pass s) := by
  have silent := participates_of_trip trip
  have slot := pass_silent s k silent
  have stopped := pass_cleanRun s k
  rw [cleanRunAfter_of_silent silent] at stopped
  have restart : (pass s).restarting = s.restarting := by rw [State.restarting, pass_nc]; rfl
  generalize pass s = t at *
  exact ⟨by rw [slot]; exact enabled, by rw [restart]; exact running, by rw [slot]; exact trip, by rw [slot],
    by rw [slot], by rw [slot]; exact off, stopped⟩

theorem pass_apart : Apart a k s (pass s) where
  trip := by rw [pass_slot_frame]
  enabled := by rw [pass_slot_frame]
  fill := .inl (by rw [pass_slot_frame])
  filter := by rw [pass_guard]
  retry := by rw [pass_guard]
  holdOff := by rw [pass_guard]
  now := pass_now s
  restart := by rw [pass_nc]
  settle _ set := by rw [pass_guard, set, Bool.true_or]
  antSettle _ set := by
    rw [pass_pm]
    simp [set]
  records := pass_records
  level := pass_levelOut
  silenced h := pass_silenced h.enabled h.running h.trip h.off

/-- A slot off Clear is off (R7). -/
theorem offNow_of_trip (enabled : (s.ca.slots.get k).enabled = true) (running : s.restarting = false)
    (trip : (s.ca.slots.get k).trip ≠ .clear) : s.offNow k = true := by
  simp [State.offNow, enabled, running, trip]

theorem evaluateOff_apart : Apart a k s (evaluateOff s) where
  trip := by rw [evaluateOff_slot]
  enabled := by rw [evaluateOff_slot]
  fill := .inl (by rw [evaluateOff_slot])
  filter := by rw [evaluateOff_pm]
  retry := by rw [evaluateOff_pm]
  holdOff := by rw [evaluateOff_pm]
  now := evaluateOff_now s
  restart := by rw [evaluateOff_nc]
  settle _ set := by rwa [evaluateOff_pm]
  antSettle _ set := by rwa [evaluateOff_pm]
  records r _ _ := by rw [evaluateOff_fr]
  level out := by
    rw [State.levelOut, evaluateOff_slot, evaluateOff_ca]
    exact out
  silenced := by
    rintro ⟨enabled, running, trip, grant, lastSent, off, cleanRun⟩
    have restart : (evaluateOff s).restarting = s.restarting := by rw [State.restarting, evaluateOff_nc]; rfl
    refine ⟨?_, by rwa [restart], ?_, ?_, ?_, ?_, by rwa [evaluateOff_pm]⟩ <;> rw [evaluateOff_slot]
    exacts [enabled, trip, grant, lastSent, offNow_of_trip enabled running trip]

/-! ## Alarm, escalation and the raise of a fault -/

theorem alarm_apart : Apart a k s (alarm s) :=
  .of_blocks (alarm_ca s) (alarm_pm s) (by rw [alarm_fr]) (alarm_now s) (by rw [alarm_nc])

theorem breakRequest_apart : Apart a k s (breakRequest s) := by
  unfold breakRequest
  split_ifs
  exacts [.of_blocks rfl rfl rfl rfl rfl, .refl s]

theorem zeroTrims_apart : Apart a k s (zeroTrims s) :=
  .of_same (by rw [zeroTrims_slot]) (.inr (by rw [zeroTrims_slot])) rfl rfl id rfl rfl fun _ _ _ => .rfl

theorem withdraw_apart : Apart a k s (withdraw s) := by
  have left : Apart a k s { abandonRound s with nc := { s.nc with state := some .withdrawn, joinTimer := .stopped } } :=
    .of_blocks rfl rfl rfl rfl rfl
  unfold withdraw enterWithdrawn stateChanged
  split_ifs
  · exact ((((left.trans zeroTrims_apart).trans evaluateOff_apart).trans pass_apart).trans alarm_apart).trans
      breakRequest_apart
  · exact .refl s

/-- What a raised fault brings besides its record leaves every slot as it is. -/
theorem raiseFault_apart_raised (key : Key) (x : Option (Int × Int)) :
    Apart a k (raiseRecord key x s) (raiseFault key x s) := by
  have alarmIf (b : Bool) (u : State) : Apart a k u (if b then alarm u else u) := by
    split_ifs
    exacts [alarm_apart, .refl u]
  have withdrawIf (b : Bool) (u : State) : Apart a k u (if b then withdraw u else u) := by
    split_ifs
    exacts [withdraw_apart, .refl u]
  unfold raiseFault
  split_ifs
  · exact (((alarmIf _ _).trans (withdrawIf _ _)).trans (withdrawIf _ _)).trans breakRequest_apart
  · exact (alarmIf _ _).trans (withdrawIf _ _)
  · exact .refl _

theorem raiseFault_apart {key : Key} (x : Option (Int × Int)) (h : key.slot ≠ some k) :
    Apart a k s (raiseFault key x s) :=
  (raiseRecord_apart x h).trans (raiseFault_apart_raised key x)

/-! ## The tests of the other slots -/

/-- A change of the Protection Monitor that leaves a slot's guard. -/
theorem setMonitor_apart {pm : Protection} (guard : pm.slots.get k = s.pm.slots.get k)
    (antSettle : s.pm.antSettle = true → pm.antSettle = true) : Apart a k s { s with pm := pm } :=
  .of_same rfl (.inl rfl) rfl guard antSettle rfl rfl fun _ _ _ => .rfl

theorem silenceLevel_apart {j : Slot} (h : k ≠ j) : Apart a k s (silenceLevel j s) := by
  unfold silenceLevel
  split_ifs
  · exact .refl s
  · have slot : (s.ca.sendLevel j 0).slots.get k = s.ca.slots.get k := by rw [sendLevel_slot, if_neg h]
    exact .of_same (by rw [slot]) (.inl (by rw [slot])) (sendLevel_others _ _ _ _ h.symm) rfl id rfl rfl fun _ _ _ => .rfl

theorem settleMonitor_apart {j : Slot} (h : k ≠ j) : Apart a k s (settleMonitor j s) :=
  setMonitor_apart (by rw [Six.get_modify, if_neg h]) fun _ => rfl

theorem tripActions_apart {j : Slot} (h : k ≠ j) : Apart a k s (tripActions j s) := by
  rw [tripActions_eq]
  exact ((evaluateOff_apart.trans (silenceLevel_apart h)).trans (settleMonitor_apart h)).trans pass_apart

/-- A slot's new trip state, its count 0 and its clean-run timer stopped (R49, R50). -/
def slotTripped (k : Slot) (x : TripState) (s : State) : State :=
  { s with
    ca := { s.ca with slots := s.ca.slots.modify k fun r => { r with trip := x } }
    pm := { s.pm with slots := s.pm.slots.modify k fun p => { p with filter := 0, cleanRun := .stopped } } }

/-- The hold-off timer starts (R49). -/
def startHoldOff (k : Slot) (length : Nat) (s : State) : State :=
  { s with pm := { s.pm with slots := s.pm.slots.modify k fun p => { p with holdOff := s.timerFor length } } }

/-- The work of a trip up to its record: the trip state and the Carriage Allocator's actions, then the record with the
forward power and the limit of the arrival grant (R19, R49, R50). -/
def tripRaised (g : Setting) (a : State) (forward : Nat) (k : Slot) (x : TripState) (kind : Kind) (s : State) : State :=
  raiseFault (.ofSlot kind k)
    (some ((forward : Int), (((a.ca.slots.get k).grant * g.overLimit / 16 : Nat) : Int)))
    (tripActions k (slotTripped k x s))

theorem tripSlot_tripped {g : Setting} {k : Slot} {s : State} (retries : (s.pm.slots.get k).retry < g.maxRetries)
    (fill : (s.ca.slots.get k).fill = 0) (a : State) (forward : Nat) :
    tripSlot g a forward k s =
      startHoldOff k (g.holdOff * 1000) (tripRaised g a forward k .tripped .ovd s) := by
  have left : (decide ((s.pm.slots.get k).retry < g.maxRetries) && (s.ca.slots.get k).fill == 0) = true := by
    simp [retries, fill]
  unfold tripSlot
  rw [left]
  simp only [if_true, startHoldOff, tripRaised, slotTripped]

theorem tripSlot_latched {g : Setting} {k : Slot} {s : State}
    (final : g.maxRetries ≤ (s.pm.slots.get k).retry ∨ (s.ca.slots.get k).fill ≠ 0) (a : State) (forward : Nat) :
    tripSlot g a forward k s = tripRaised g a forward k .latched .ovl s := by
  have none : (decide ((s.pm.slots.get k).retry < g.maxRetries) && (s.ca.slots.get k).fill == 0) = false := by
    rcases final with h | h <;> simp [h]
  unfold tripSlot
  rw [none]
  simp only [Bool.false_eq_true, if_false, tripRaised, slotTripped]

/-- The two outcomes of a trip (R49, R50). -/
theorem tripSlot_cases (g : Setting) (a : State) (forward : Nat) (k : Slot) (s : State) :
    tripSlot g a forward k s = startHoldOff k (g.holdOff * 1000) (tripRaised g a forward k .tripped .ovd s) ∨
      tripSlot g a forward k s = tripRaised g a forward k .latched .ovl s := by
  by_cases final : g.maxRetries ≤ (s.pm.slots.get k).retry ∨ (s.ca.slots.get k).fill ≠ 0
  · exact .inr (tripSlot_latched final a forward)
  · rw [not_or, not_le, not_not] at final
    exact .inl (tripSlot_tripped final.1 final.2 a forward)

theorem slotTripped_apart {j : Slot} (h : k ≠ j) (x : TripState) : Apart a k s (slotTripped j x s) := by
  have slot : (slotTripped j x s).ca.slots.get k = s.ca.slots.get k := by rw [slotTripped, Six.get_modify, if_neg h]
  exact .of_same (by rw [slot]) (.inl (by rw [slot])) rfl (by rw [slotTripped, Six.get_modify, if_neg h]) id rfl rfl
    fun _ _ _ => .rfl

theorem tripRaised_apart {j : Slot} (h : k ≠ j) (g : Setting) (b : State) (forward : Nat) (x : TripState) (kind : Kind) :
    Apart a k s (tripRaised g b forward j x kind s) :=
  ((slotTripped_apart h x).trans (tripActions_apart h)).trans
    (raiseFault_apart _ fun same => h (Option.some.inj same).symm)

theorem startHoldOff_apart {j : Slot} (h : k ≠ j) (length : Nat) : Apart a k s (startHoldOff j length s) :=
  setMonitor_apart (by rw [Six.get_modify, if_neg h]) id

/-- The trip of another slot (R49, R50). -/
theorem tripSlot_apart {j : Slot} (h : k ≠ j) (g : Setting) (b : State) (forward : Nat) :
    Apart a k s (tripSlot g b forward j s) := by
  rcases tripSlot_cases g b forward j s with tripped | latched
  · rw [tripped]
    exact (tripRaised_apart h g b forward _ _).trans (startHoldOff_apart h _)
  · rw [latched]
    exact tripRaised_apart h g b forward _ _

theorem setFilter_apart {j : Slot} (h : k ≠ j) (n : Nat) : Apart a k s (setFilter j n s) :=
  setMonitor_apart (by rw [Six.get_modify, if_neg h]) id

theorem testSlot_apart {j : Slot} (h : k ≠ j) (g : Setting) (b : State) (m : MeasFrame) :
    Apart a k s (testSlot g b m s j) := by
  unfold testSlot
  dsimp only
  split_ifs
  exacts [tripSlot_apart h g b _, setFilter_apart h _, setFilter_apart h _, setFilter_apart h _]

theorem testSlots_apart {l : List Slot} (h : k ∉ l) (g : Setting) (b : State) (m : MeasFrame) :
    Apart a k s (l.foldl (testSlot g b m) s) := by
  induction l generalizing s with
  | nil => exact .refl s
  | cons j l ih =>
    obtain ⟨other, rest⟩ := List.ne_and_not_mem_of_not_mem_cons h
    exact (testSlot_apart other g b m).trans (ih rest)

/-! ## The antenna, the settle flags and the temperature -/

theorem testAntenna_apart (g : Setting) (b : State) (m : MeasFrame) : Apart a k s (testAntenna g b m s) := by
  have counted (n : Nat) : Apart a k s (setAntFilter n s) := setMonitor_apart rfl id
  unfold testAntenna latchAntenna
  split_ifs
  · exact (setMonitor_apart (pm := { s.pm with antLatch := true, antFilter := 0 }) rfl id).trans
      (raiseFault_apart _ nofun)
  · exact counted _
  · exact counted _
  · exact counted _

theorem recomputeBudget_apart (mi : Intake) : Apart a k s (recomputeBudget { s with mi := mi }) :=
  .of_same rfl (.inl rfl) rfl rfl id rfl rfl fun _ _ _ => .rfl

theorem thermal_apart (g : Setting) (x : Int) : Apart a k s (thermal g x s) := by
  have derate (before after : Nat) (u : State) : Apart a k u (reportDerate g before after x u) := by
    unfold reportDerate
    split_ifs
    exacts [raiseFault_apart _ nofun, clearRecord_apart nofun, .refl u]
  have mute (before after : Bool) (u : State) : Apart a k u (reportMute g before after x u) := by
    unfold reportMute
    split_ifs
    exacts [raiseFault_apart _ nofun, clearRecord_apart nofun, .refl u]
  unfold thermal
  dsimp only
  split_ifs
  · exact .refl s
  · exact ((((recomputeBudget_apart _).trans (derate _ _ _)).trans (mute _ _ _)).trans evaluateOff_apart).trans
      pass_apart

theorem thermalWork_apart (m : MeasFrame) : Apart a k s (thermalWork m s) := by
  unfold thermalWork
  split
  exacts [.refl s, thermal_apart _ _]

/-- Clearing the settle flags set on arrival keeps those set since (R45 step 3). -/
theorem clearSettled_apart : Apart a k s (clearSettled a s) where
  trip := rfl
  enabled := rfl
  fill := .inl rfl
  filter := by rw [clearSettled, Six.get_tabulate]
  retry := by rw [clearSettled, Six.get_tabulate]
  holdOff := by rw [clearSettled, Six.get_tabulate]
  now := rfl
  restart := rfl
  settle arrived set := by
    rw [clearSettled, Six.get_tabulate]
    simp [arrived, set]
  antSettle arrived set := by simp [clearSettled, arrived, set]
  records _ _ _ := .rfl
  level := id
  silenced := by
    rintro ⟨enabled, running, trip, grant, lastSent, off, cleanRun⟩
    refine ⟨enabled, running, trip, grant, lastSent, off, ?_⟩
    rwa [clearSettled, Six.get_tabulate]

end

end Sys2Proof.Machine
end

section
/-! SUPPORT. The trip of a slot (R48 to R50), the places its records take in the Fault Log, and the frame that trips it. -/

namespace Sys2Proof.Machine

/-! ## Places in the Fault Log -/

/-- Whether a key is that of FLR, the fault that a pass raises (R14). -/
def Key.isShort (key : Key) : Bool := key == .plain .flr

/-- The place that a new record of a key takes, none for FLR. -/
def Key.place (key : Key) : Nat := if key.isShort then 0 else 1

/-- The places a log takes, with one for FLR kept free where it holds none, so that a pass takes none. -/
def Recorder.places (fr : Recorder) : Nat :=
  fr.log.countP (fun r => !r.key.isShort) + max 1 (fr.log.countP fun r => r.key.isShort)

theorem length_eq_counts (log : List Record) :
    log.length = log.countP (fun r => r.key.isShort) + log.countP fun r => !r.key.isShort :=
  (List.length_eq_countP_add_countP fun r => r.key.isShort).trans (by simp)

theorem length_le_places (fr : Recorder) : fr.log.length ≤ fr.places := by
  rw [length_eq_counts, Recorder.places]
  omega

theorem places_le (fr : Recorder) : fr.places ≤ fr.log.length + 1 := by
  rw [length_eq_counts, Recorder.places]
  omega

/-- What becomes of the records of a log, one by one, does not raise a count that looks at their keys alone. -/
theorem countP_filterMap_le {f : Record → Option Record} (keys : ∀ r, ∀ r' ∈ f r, r'.key = r.key) (p : Key → Bool)
    (log : List Record) : (log.filterMap f).countP (fun r => p r.key) ≤ log.countP fun r => p r.key := by
  induction log with
  | nil => exact le_rfl
  | cons r log ih =>
    cases kept : f r with
    | none =>
      rw [List.filterMap_cons_none kept, List.countP_cons]
      omega
    | some r' =>
      rw [List.filterMap_cons_some kept, List.countP_cons, List.countP_cons, keys r r' kept]
      omega

theorem places_filterMap_le {fr fr' : Recorder} {f : Record → Option Record} (h : fr'.log = fr.log.filterMap f)
    (keys : ∀ r, ∀ r' ∈ f r, r'.key = r.key) : fr'.places ≤ fr.places := by
  have short := countP_filterMap_le keys Key.isShort fr.log
  have other := countP_filterMap_le keys (fun key => !key.isShort) fr.log
  rw [← h] at short other
  unfold Recorder.places
  omega

/-- A new record takes at most one place; that of a first FLR is kept free. -/
theorem create_places {fr : Recorder} (now : Nat) {key : Key} (x : Option (Int × Int))
    (absent : ¬ fr.log.any (fun r => r.key == key) = true) :
    (fr.create now key x).places ≤ fr.places + key.place := by
  have appended {log : List Record} (sub : log.Sublist fr.log) (f : Recorder)
      (h : f.log = log ++ [newRecord fr.nextSeq now key x]) :
      f.places ≤ fr.places + key.place := by
    have short := sub.countP_le (p := fun r => r.key.isShort)
    have other := sub.countP_le (p := fun r => !r.key.isShort)
    have new : (newRecord fr.nextSeq now key x).key.isShort = key.isShort := rfl
    rw [Recorder.places, Recorder.places, h, List.countP_append, List.countP_append, List.countP_singleton,
      List.countP_singleton, new]
    by_cases flr : key = .plain .flr
    · have none : fr.log.countP (fun r => r.key.isShort) = 0 := by
        rw [List.countP_eq_zero]
        intro r mem short
        exact absent (List.any_eq_true.mpr ⟨r, mem, by rw [flr]; exact short⟩)
      have short : key.isShort = true := by rw [flr]; rfl
      simp only [Key.place, short, Bool.not_true, if_true, Bool.false_eq_true, if_false]
      omega
    · have differs : key.isShort = false := by simpa [Key.isShort] using flr
      simp only [Key.place, differs, Bool.not_false, if_true, Bool.false_eq_true, if_false]
      omega
  unfold Recorder.create
  dsimp only
  split_ifs
  · exact appended (.refl _) _ rfl
  · exact Nat.le_add_right _ _
  · exact appended (log := dropOldestCleared fr.log) List.eraseP_sublist _ rfl

theorem raise_places (fr : Recorder) (now : Nat) (key : Key) (x : Option (Int × Int)) :
    (fr.raise now key x).places ≤ fr.places + key.place := by
  unfold Recorder.raise
  by_cases active : fr.isActive key = true
  · rw [if_pos active]
    exact Nat.le_add_right _ _
  · rw [if_neg active]
    by_cases known : fr.log.any (fun r => r.key == key) = true
    · rw [if_pos known]
      refine (places_filterMap_le (f := fun r => some (if r.key = key then r.reactivate now x else r)) ?_ ?_).trans
        (Nat.le_add_right _ _)
      · rw [evaluate_log, List.filterMap_eq_map']
      · rintro r _ ⟨⟩
        split_ifs <;> rfl
    · rw [if_neg known]
      exact create_places now x known

/-- A clear takes no place. -/
theorem clear_places (fr : Recorder) (now : Nat) (key : Key) : (fr.clear now key).places ≤ fr.places := by
  unfold Recorder.clear
  split_ifs
  · refine places_filterMap_le rfl fun r r' => ?_
    unfold Record.ended
    split_ifs <;> rintro ⟨⟩ <;> rfl
  · exact le_rfl

/-! ## Places taken by the tests of a frame -/

theorem pass_places (s : State) : (pass s).fr.places ≤ s.fr.places := by
  rw [pass_fr, reportShort]
  split_ifs
  exacts [raise_places _ _ _ _, clear_places _ _ _]

/-- The Carriage Allocator's actions at a trip come to the Fault Log with their pass alone. -/
theorem settleSilenced_fr (k : Slot) (s : State) :
    (settleMonitor k (silenceLevel k (evaluateOff s))).fr = s.fr := by
  unfold settleMonitor silenceLevel
  dsimp only
  split_ifs <;> rw [evaluateOff_fr]

theorem tripActions_places (k : Slot) (s : State) : (tripActions k s).fr.places ≤ s.fr.places := by
  rw [tripActions_eq, ← settleSilenced_fr k s]
  exact pass_places _

theorem tripActions_isActive {key : Key} (k : Slot) (s : State) (h : key ≠ .plain .flr) :
    (tripActions k s).fr.isActive key = s.fr.isActive key := by
  rw [tripActions_eq, pass_isActive _ h, settleSilenced_fr]

theorem enterWithdrawn_places (s : State) : (enterWithdrawn s).fr.places ≤ s.fr.places := by
  rw [enterWithdrawn_eq, breakRequest_fr, stateChanged, alarm_fr]
  refine (pass_places _).trans (le_of_eq ?_)
  rw [evaluateOff_fr, leavingAir_fr]

/-- A fault raised takes one place, whatever it brings. -/
theorem raiseFault_places (key : Key) (x : Option (Int × Int)) (s : State) :
    (raiseFault key x s).fr.places ≤ s.fr.places + 1 := by
  have recorded : (raiseRecord key x s).fr.places ≤ s.fr.places + 1 := by
    refine (raise_places s.fr s.now key x).trans (Nat.add_le_add_left ?_ _)
    unfold Key.place
    split_ifs <;> omega
  have alarmIf (b : Bool) (u : State) : (if b then alarm u else u).fr.places ≤ u.fr.places := by
    split_ifs
    exacts [(congrArg Recorder.places (alarm_fr u)).le, le_rfl]
  have withdrawIf (b : Bool) (u : State) : (if b then withdraw u else u).fr.places ≤ u.fr.places := by
    unfold withdraw
    split_ifs
    exacts [enterWithdrawn_places u, le_rfl, le_rfl]
  unfold raiseFault
  split_ifs
  · rw [breakRequest_fr]
    exact (((withdrawIf _ _).trans (withdrawIf _ _)).trans (alarmIf _ _)).trans recorded
  · exact ((withdrawIf _ _).trans (alarmIf _ _)).trans recorded
  · exact recorded

theorem tripRaised_places (g : Setting) (a : State) (forward : Nat) (k : Slot) (x : TripState) (kind : Kind) (s : State) :
    (tripRaised g a forward k x kind s).fr.places ≤ s.fr.places + 1 :=
  (raiseFault_places _ _ _).trans (Nat.add_le_add_right (tripActions_places k (slotTripped k x s)) 1)

theorem startHoldOff_fr (k : Slot) (length : Nat) (s : State) : (startHoldOff k length s).fr = s.fr := rfl

theorem testSlot_places (g : Setting) (a : State) (m : MeasFrame) (s : State) (k : Slot) :
    (testSlot g a m s k).fr.places ≤ s.fr.places + 1 := by
  unfold testSlot
  dsimp only
  split_ifs
  · rcases tripSlot_cases g a (m.forward.get k) k s with tripped | latched
    · rw [tripped, startHoldOff_fr]
      exact tripRaised_places g a _ k _ _ s
    · rw [latched]
      exact tripRaised_places g a _ k _ _ s
  all_goals exact Nat.le_succ _

/-- A frame's tests take at most one place for each slot. -/
theorem testSlots_places (g : Setting) (a : State) (m : MeasFrame) (l : List Slot) (s : State) :
    (l.foldl (testSlot g a m) s).fr.places ≤ s.fr.places + l.length := by
  induction l generalizing s with
  | nil => exact le_rfl
  | cons k l ih =>
    have first := testSlot_places g a m s k
    have rest := ih (testSlot g a m s k)
    rw [List.foldl_cons, List.length_cons]
    omega

/-! ## The trip of a slot -/

/-- A slot that left Clear on the frame that arrived in `a`, as the rest of the frame's work leaves it. -/
structure TrippedAs (a : State) (k : Slot) (x : TripState) (holdOff : Timer) (t : State) : Prop where
  trip : (t.ca.slots.get k).trip = x
  holdOff : (t.pm.slots.get k).holdOff = holdOff
  silenced : Silenced k t
  settle : (t.pm.slots.get k).settle = true
  antSettle : a.pm.antSettle = false → t.pm.antSettle = true

/-- An Active record of a slot with its value and limit (R142). -/
def Recorded (key : Key) (reading : Option (Int × Int)) (t : State) : Prop :=
  ∃ r ∈ t.fr.log, r.key = key ∧ r.active = true ∧ r.reading = reading

section
variable {a s t : State} {k : Slot}

theorem Apart.trippedAs {x : TripState} {holdOff : Timer} (h : Apart a k s t)
    (arrived : (a.pm.slots.get k).settle = false) (tripped : TrippedAs a k x holdOff s) : TrippedAs a k x holdOff t where
  trip := h.trip.trans tripped.trip
  holdOff := h.holdOff.trans tripped.holdOff
  silenced := h.silenced tripped.silenced
  settle := h.settle arrived tripped.settle
  antSettle none := h.antSettle none (tripped.antSettle none)

theorem Apart.recorded {kind : Kind} {x : Option (Int × Int)} (h : Apart a k s t)
    (recorded : Recorded (.ofSlot kind k) x s) : Recorded (.ofSlot kind k) x t := by
  obtain ⟨r, mem, key, active, reading⟩ := recorded
  exact ⟨r, (h.records r (by rw [key]; rfl) active).mpr mem, key, active, reading⟩

theorem Apart.inactive {kind : Kind} (h : Apart a k s t) (inactive : s.fr.isActive (.ofSlot kind k) = false) :
    t.fr.isActive (.ofSlot kind k) = false := by
  rw [Bool.eq_false_iff, ne_eq, isActive_iff] at inactive ⊢
  rintro ⟨r, mem, key, active⟩
  exact inactive ⟨r, (h.records r (by rw [key]; rfl) active).mp mem, key, active⟩

theorem silenceLevel_slot (k : Slot) (s : State) :
    (silenceLevel k s).ca.slots.get k = { s.ca.slots.get k with lastSent := 0 } := by
  unfold silenceLevel
  split_ifs with zero
  · rw [← zero]
  · rw [sendLevel_slot, if_pos rfl]

theorem silenceLevel_levelOut (out : s.levelOut k) : (silenceLevel k s).levelOut k := by
  unfold silenceLevel
  split_ifs
  exacts [out, .inr (sendLevel_last _ _ _)]

theorem silenceLevel_frame (k : Slot) (s : State) : silenceLevel k s = { s with ca := (silenceLevel k s).ca } := by
  unfold silenceLevel
  split_ifs <;> rfl

theorem settleMonitor_guard (k : Slot) (s : State) :
    (settleMonitor k s).pm.slots.get k = { s.pm.slots.get k with settle := true } := by
  simp [settleMonitor]

theorem slotTripped_slot (k : Slot) (x : TripState) (s : State) :
    (slotTripped k x s).ca.slots.get k = { s.ca.slots.get k with trip := x } := by
  simp [slotTripped]

theorem tripRaised_now (g : Setting) (a : State) (forward : Nat) (k : Slot) (x : TripState) (kind : Kind) (s : State) :
    (tripRaised g a forward k x kind s).now = s.now := by
  rw [tripRaised, raiseFault_now, tripActions_now]
  rfl

theorem slotTripped_guard (k : Slot) (x : TripState) (s : State) :
    (slotTripped k x s).pm.slots.get k = { s.pm.slots.get k with filter := 0, cleanRun := .stopped } := by
  simp [slotTripped]

/-- The pass of a trip, once the off flag is set, the level silenced and the settle flags set. -/
theorem pass_tripped {x : TripState} (left : x ≠ .clear) (trip : (s.ca.slots.get k).trip = x)
    (enabled : (s.ca.slots.get k).enabled = true) (running : s.restarting = false)
    (off : (s.ca.slots.get k).off = true) (settle : (s.pm.slots.get k).settle = true)
    (antSettle : s.pm.antSettle = true) : TrippedAs a k x (s.pm.slots.get k).holdOff (pass s) where
  trip := (pass_apart (a := a)).trip.trans trip
  holdOff := (pass_apart (a := a)).holdOff
  silenced := pass_silenced enabled running (trip ▸ left) off
  settle := by rw [pass_guard, settle, Bool.true_or]
  antSettle _ := by
    rw [pass_pm]
    simp [antSettle]

/-- The Carriage Allocator's actions silence a slot that leaves Clear and set its settle flags (R19). -/
theorem tripActions_tripped {x : TripState} (left : x ≠ .clear) (enabled : (s.ca.slots.get k).enabled = true)
    (running : s.restarting = false) :
    TrippedAs a k x (s.pm.slots.get k).holdOff (tripActions k (slotTripped k x s)) := by
  have tripped := slotTripped_slot k x s
  have off : (slotTripped k x s).offNow k = true :=
    offNow_of_trip (by rw [tripped]; exact enabled) running (by rw [tripped]; exact left)
  have slot : (settleMonitor k (silenceLevel k (evaluateOff (slotTripped k x s)))).ca.slots.get k =
      { s.ca.slots.get k with trip := x, off := true, lastSent := 0 } := by
    show (silenceLevel k (evaluateOff (slotTripped k x s))).ca.slots.get k = _
    rw [silenceLevel_slot, evaluateOff_slot, tripped, off]
  have guard : (settleMonitor k (silenceLevel k (evaluateOff (slotTripped k x s)))).pm.slots.get k =
      { s.pm.slots.get k with filter := 0, cleanRun := .stopped, settle := true } := by
    rw [settleMonitor_guard, silenceLevel_frame]
    dsimp only
    rw [evaluateOff_pm, slotTripped_guard]
  have restart : (settleMonitor k (silenceLevel k (evaluateOff (slotTripped k x s)))).restarting = false := by
    have same : (settleMonitor k (silenceLevel k (evaluateOff (slotTripped k x s)))).nc = s.nc := by
      show (silenceLevel k (evaluateOff (slotTripped k x s))).nc = _
      rw [silenceLevel_frame]
      exact evaluateOff_nc _
    rw [State.restarting, same]
    exact running
  have antSettle : (settleMonitor k (silenceLevel k (evaluateOff (slotTripped k x s)))).pm.antSettle = true := rfl
  rw [tripActions_eq]
  generalize settleMonitor k (silenceLevel k (evaluateOff (slotTripped k x s))) = u at *
  have passed : TrippedAs a k x (u.pm.slots.get k).holdOff (pass u) :=
    pass_tripped left (by rw [slot]) (by rw [slot]; exact enabled) restart (by rw [slot]) (by rw [guard]) antSettle
  rwa [guard] at passed

/-- A raise of a key without an Active record, into a log with a free place, leaves one with the reading (R143). -/
theorem raiseRecord_recorded {key : Key} (x : Option (Int × Int)) (room : s.fr.log.length < 32)
    (inactive : s.fr.isActive key = false) : Recorded key x (raiseRecord key x s) := by
  unfold Recorded raiseRecord Recorder.raise
  rw [if_neg (by simpa using inactive)]
  split_ifs with known
  · obtain ⟨r, mem, same⟩ := List.any_eq_true.mp known
    have key : r.key = key := by simpa using same
    exact ⟨r.reactivate s.now x, List.mem_map.mpr ⟨r, mem, if_pos key⟩, key, rfl, rfl⟩
  · refine ⟨newRecord s.fr.nextSeq s.now key x, ?_, rfl, rfl, rfl⟩
    have place : s.fr.log.length < Config.logPlaces := room
    simp [Recorder.create, place]

/-- A slot that leaves Clear is tripped as given, and where its key has no Active record and the log has two places, it
is recorded (R49, R50). -/
theorem tripRaised_tripped {x : TripState} (g : Setting) (forward : Nat) (kind : Kind)
    (arrived : (a.pm.slots.get k).settle = false) (left : x ≠ .clear) (enabled : (s.ca.slots.get k).enabled = true)
    (running : s.restarting = false) :
    TrippedAs a k x (s.pm.slots.get k).holdOff (tripRaised g a forward k x kind s) ∧
      (s.fr.places < 32 → s.fr.isActive (.ofSlot kind k) = false →
        Recorded (.ofSlot kind k)
          (some ((forward : Int), (((a.ca.slots.get k).grant * g.overLimit / 16 : Nat) : Int)))
          (tripRaised g a forward k x kind s)) := by
  have tripped : TrippedAs a k x (s.pm.slots.get k).holdOff (tripActions k (slotTripped k x s)) :=
    tripActions_tripped left enabled running
  have places := tripActions_places k (slotTripped k x s)
  have inactive (h : s.fr.isActive (.ofSlot kind k) = false) :
      (tripActions k (slotTripped k x s)).fr.isActive (.ofSlot kind k) = false := by
    rw [tripActions_isActive _ _ (by simp [Key.ofSlot, Key.plain])]
    exact h
  unfold tripRaised
  generalize tripActions k (slotTripped k x s) = u at *
  generalize some ((forward : Int), (((a.ca.slots.get k).grant * g.overLimit / 16 : Nat) : Int)) = reading
  have brought : Apart a k (raiseRecord (.ofSlot kind k) reading u) (raiseFault (.ofSlot kind k) reading u) :=
    raiseFault_apart_raised _ _
  have recordedOnly : TrippedAs a k x (s.pm.slots.get k).holdOff (raiseRecord (.ofSlot kind k) reading u) := by
    obtain ⟨trip, holdOff, ⟨enabled, running, left, grant, lastSent, off, cleanRun⟩, settle, antSettle⟩ := tripped
    exact ⟨trip, holdOff, ⟨enabled, running, left, grant, lastSent, off, cleanRun⟩, settle, antSettle⟩
  refine ⟨brought.trippedAs arrived recordedOnly, fun room none => brought.recorded (raiseRecord_recorded _ ?_ (inactive none))⟩
  exact lt_of_le_of_lt ((length_le_places _).trans places) room

/-- The trip of a slot leaves a level not 0 in force, or a frame of level 0 as the last on its way (R19). -/
theorem tripSlot_levelOut (g : Setting) (forward : Nat) (out : s.levelOut k) :
    (tripSlot g a forward k s).levelOut k := by
  have raised (x : TripState) (kind : Kind) : (tripRaised g a forward k x kind s).levelOut k := by
    have tripped : (slotTripped k x s).levelOut k := by
      rw [State.levelOut, slotTripped_slot]
      exact out
    have silent : (settleMonitor k (silenceLevel k (evaluateOff (slotTripped k x s)))).levelOut k :=
      silenceLevel_levelOut ((evaluateOff_apart (a := a)).level tripped)
    have acted : (tripActions k (slotTripped k x s)).levelOut k := by
      rw [tripActions_eq]
      exact pass_levelOut silent
    unfold tripRaised
    generalize tripActions k (slotTripped k x s) = u at *
    exact (raiseFault_apart_raised (a := a) _ _).level acted
  rcases tripSlot_cases g a forward k s with tripped | latched
  · have started (u : State) (h : u.levelOut k) : (startHoldOff k (g.holdOff * 1000) u).levelOut k := h
    rw [tripped]
    exact started _ (raised _ _)
  · rw [latched]
    exact raised _ _

/-- The start of the hold-off timer touches a slot's timer alone. -/
theorem startHoldOff_tripped {x : TripState} {holdOff : Timer} (length : Nat) (h : TrippedAs a k x holdOff s) :
    TrippedAs a k x (s.timerFor length) (startHoldOff k length s) := by
  obtain ⟨trip, -, ⟨enabled, running, left, grant, lastSent, off, cleanRun⟩, settle, antSettle⟩ := h
  have guard : (startHoldOff k length s).pm.slots.get k = { s.pm.slots.get k with holdOff := s.timerFor length } := by
    simp [startHoldOff]
  exact ⟨trip, by rw [guard], ⟨enabled, running, left, grant, lastSent, off, by rw [guard]; exact cleanRun⟩,
    by rw [guard]; exact settle, antSettle⟩

theorem startHoldOff_recorded {key : Key} {x : Option (Int × Int)} (length : Nat) (h : Recorded key x s) :
    Recorded key x (startHoldOff k length s) := h

end

/-! ## The frame that trips a slot -/

/-- The slots tested before a slot and after it (R45). -/
def slotsBefore (k : Slot) : List Slot := Slot.all.filter fun j => decide (j.number < k.number)
def slotsAfter (k : Slot) : List Slot := Slot.all.filter fun j => decide (k.number < j.number)

theorem all_eq_around (k : Slot) : Slot.all = slotsBefore k ++ k :: slotsAfter k := by
  cases k <;> rfl

theorem mem_slotsBefore {j k : Slot} : j ∈ slotsBefore k ↔ j.number < k.number := by
  simp [slotsBefore, j.mem_all]

theorem not_mem_slotsBefore (k : Slot) : k ∉ slotsBefore k := by
  simp [slotsBefore]

theorem not_mem_slotsAfter (k : Slot) : k ∉ slotsAfter k := by
  simp [slotsAfter]

theorem slotsBefore_length (k : Slot) : (slotsBefore k).length ≤ 6 := List.length_filter_le _ _

section
variable {a s : State} {g : Setting} {m : MeasFrame} {k : Slot}

/-- An over-driven slot is tripped by its test (R48, R49). -/
theorem testSlot_trips (driven : a.overDriven g m k) (filter : (s.pm.slots.get k).filter = (a.pm.slots.get k).filter) :
    testSlot g a m s k = tripSlot g a (m.forward.get k) k s := by
  obtain ⟨tested, power, count⟩ := driven
  unfold testSlot
  dsimp only
  rw [if_pos tested, if_pos power, filter, if_pos count]

/-- A test that trips no slot writes the filter count alone. -/
theorem testSlot_counts (quiet : ¬ a.overDriven g m k)
    (filter : (s.pm.slots.get k).filter = (a.pm.slots.get k).filter) : ∃ n, testSlot g a m s k = setFilter k n s := by
  unfold testSlot
  dsimp only
  split_ifs with tested power count
  · exact absurd ⟨tested, power, filter ▸ count⟩ quiet
  · exact ⟨_, rfl⟩
  · exact ⟨_, rfl⟩
  · exact ⟨_, rfl⟩

/-- Tests that trip no slot leave the Carriage Table. -/
theorem testSlots_ca {l : List Slot} (nodup : l.Nodup)
    (filters : ∀ j ∈ l, (s.pm.slots.get j).filter = (a.pm.slots.get j).filter) (quiet : ∀ j ∈ l, ¬ a.overDriven g m j) :
    (l.foldl (testSlot g a m) s).ca = s.ca := by
  induction l generalizing s with
  | nil => rfl
  | cons j l ih =>
    obtain ⟨other, rest⟩ := List.nodup_cons.mp nodup
    obtain ⟨n, counted⟩ := testSlot_counts (quiet j (List.mem_cons_self ..)) (filters j (List.mem_cons_self ..))
    rw [List.foldl_cons, counted, ih rest (fun i mem => ?_) fun i mem => quiet i (List.mem_cons_of_mem _ mem)]
    · rfl
    · have ne : i ≠ j := fun same => other (same ▸ mem)
      rw [← filters i (List.mem_cons_of_mem _ mem)]
      simp [setFilter, Six.get_modify, ne]

/-- An over-driven slot is enabled and Clear, and its settle flag is clear (R6, R47). -/
theorem overDriven_slot (driven : a.overDriven g m k) :
    (a.ca.slots.get k).enabled = true ∧ a.restarting = false ∧ (a.pm.slots.get k).settle = false := by
  obtain ⟨tested, -⟩ := driven
  simp only [State.slotTested, State.participates, Bool.and_eq_true, Bool.not_eq_true'] at tested
  tauto

end

/-! ## The state on arrival -/

/-- The state on which a good frame's tests are decided: the frame stored, the sample timer and the loads done (R29). -/
def arrival (m : MeasFrame) (s : State) : State :=
  loadWork m (refreshSampleTimer { s with mi := { s.mi with lastFrame := some m } })

theorem goodFrame_eq {g : Setting} (m : MeasFrame) {s : State} (held : s.nc.setting = some g) :
    goodFrame m s =
      thermalWork m (clearSettled (arrival m s)
        (testAntenna g (arrival m s) m (Slot.all.foldl (testSlot g (arrival m s) m) (arrival m s)))) := by
  have setting : (arrival m s).nc.setting = some g := by rw [arrival, loadWork_nc, refreshSampleTimer_nc, held]
  show thermalWork m (protect m (arrival m s)) = _
  generalize arrival m s = a at *
  rw [protect, setting]

section
variable {a s : State} {k : Slot}

theorem refreshSampleTimer_apart : Apart a k s (refreshSampleTimer s) :=
  .of_blocks (refreshSampleTimer_ca s) (refreshSampleTimer_pm s) (by rw [refreshSampleTimer_fr])
    (refreshSampleTimer_now s) (by rw [refreshSampleTimer_nc])

theorem updateLoads_apart (g : Setting) (m : MeasFrame) : Apart a k s (updateLoads g m s) := by
  have loaded := (updateLoads_alike g m s).slots k
  have trims : ((updateLoads g m s).ca.slots.get k).bias = (s.ca.slots.get k).bias ∧
      ((updateLoads g m s).ca.slots.get k).fill = (s.ca.slots.get k).fill := by
    rw [loaded]
    exact ⟨rfl, rfl⟩
  refine .of_same ?_ (.inl trims.2) rfl rfl id rfl rfl fun r slot _ => mem_clear_other fun same => ?_
  · rw [trims.1, trims.2]
    exact loaded
  · rw [same] at slot
    cases slot

theorem arrival_apart (m : MeasFrame) (s : State) : Apart a k s (arrival m s) := by
  have stored : Apart a k s { s with mi := { s.mi with lastFrame := some m } } := .of_blocks rfl rfl rfl rfl rfl
  have loaded (u : State) : Apart a k u (loadWork m u) := by
    unfold loadWork
    split
    · exact .refl u
    · split_ifs
      exacts [updateLoads_apart _ m, .refl u]
  exact (stored.trans refreshSampleTimer_apart).trans (loaded _)

theorem arrival_pm (m : MeasFrame) (s : State) : (arrival m s).pm = s.pm := by
  rw [arrival, loadWork_pm, refreshSampleTimer_pm]

theorem arrival_nc (m : MeasFrame) (s : State) : (arrival m s).nc = s.nc := by
  rw [arrival, loadWork_nc, refreshSampleTimer_nc]

theorem arrival_alike (m : MeasFrame) (s : State) : Alike s (arrival m s) :=
  ((setIntake_alike s { s.mi with lastFrame := some m } rfl rfl).trans (refreshSampleTimer_alike _)).trans
    (loadWork_alike m _)

theorem arrival_places (m : MeasFrame) (s : State) : (arrival m s).fr.places ≤ s.fr.places := by
  have loaded (u : State) : (loadWork m u).fr.places ≤ u.fr.places := by
    unfold loadWork
    split
    · exact le_rfl
    · split_ifs
      exacts [clear_places _ _ _, le_rfl]
  refine (loaded _).trans (le_of_eq ?_)
  rw [refreshSampleTimer_fr]

/-- The tests read the same on arrival as before the frame. -/
theorem arrival_overDriven (m : MeasFrame) {g : Setting} {m' : MeasFrame} :
    (arrival m s).overDriven g m' k ↔ s.overDriven g m' k := by
  have alike := arrival_alike m s
  have grant : ((arrival m s).ca.slots.get k).grant = (s.ca.slots.get k).grant := by rw [alike.slots k]
  have tested : (arrival m s).slotTested k = s.slotTested k := by
    rw [State.slotTested, State.slotTested, alike.participates, grant, arrival_pm, State.configured, State.onAir,
      State.restarting, arrival_nc]
    rfl
  rw [State.overDriven, State.overDriven, tested, grant, arrival_pm]

end

/-! ## The trip within the frame -/

section
variable {s : State} {g : Setting} {m : MeasFrame} {k : Slot}

/-- The state in which a slot's test runs: the slots before it are tested. -/
def testedBefore (g : Setting) (m : MeasFrame) (k : Slot) (s : State) : State :=
  (slotsBefore k).foldl (testSlot g (arrival m s) m) (arrival m s)

theorem testedBefore_apart : Apart (arrival m s) k s (testedBefore g m k s) :=
  (arrival_apart m s).trans (testSlots_apart (not_mem_slotsBefore k) g _ m)

theorem testedBefore_places (short : s.fr.log.length ≤ 20) : (testedBefore g m k s).fr.places < 32 := by
  have tests := testSlots_places g (arrival m s) m (slotsBefore k) (arrival m s)
  have before := slotsBefore_length k
  have arrived := arrival_places m s
  have places := places_le s.fr
  unfold testedBefore
  omega

/-- Where no slot before it is over-driven a slot's fill is that before the frame. -/
theorem testedBefore_fill (quiet : ∀ j, j.number < k.number → ¬ s.overDriven g m j) :
    ((testedBefore g m k s).ca.slots.get k).fill = (s.ca.slots.get k).fill := by
  have untouched : (testedBefore g m k s).ca = (arrival m s).ca :=
    testSlots_ca (Slot.all_nodup.filter _) (fun _ _ => rfl) fun j mem =>
      mt (arrival_overDriven m).mp (quiet j (mem_slotsBefore.mp mem))
  rw [untouched, (arrival_alike m s).slots k]

/-- The frame's work after the test of an over-driven slot leaves the slot as its trip left it. -/
theorem goodFrame_apart (held : s.nc.setting = some g) (driven : s.overDriven g m k) :
    Apart (arrival m s) k (tripSlot g (arrival m s) (m.forward.get k) k (testedBefore g m k s)) (goodFrame m s) := by
  have filter : ((testedBefore g m k s).pm.slots.get k).filter = ((arrival m s).pm.slots.get k).filter := by
    rw [testedBefore_apart.filter, arrival_pm]
  have trips := testSlot_trips ((arrival_overDriven m).mpr driven) filter
  have tests : Slot.all.foldl (testSlot g (arrival m s) m) (arrival m s) =
      (slotsAfter k).foldl (testSlot g (arrival m s) m)
        (tripSlot g (arrival m s) (m.forward.get k) k (testedBefore g m k s)) := by
    rw [← trips, testedBefore, ← List.foldl_cons (f := testSlot g (arrival m s) m), ← List.foldl_append, ← all_eq_around]
  rw [goodFrame_eq m held, tests]
  exact (((testSlots_apart (not_mem_slotsAfter k) g _ m).trans (testAntenna_apart g _ m)).trans
    clearSettled_apart).trans (thermalWork_apart m)

/-- The last frame on its way for a slot tripped carries level 0, where its level was not 0 before (R19). -/
theorem goodFrame_frames (held : s.nc.setting = some g) (driven : s.overDriven g m k)
    (silenced : Silenced k (goodFrame m s)) (sent : (s.ca.slots.get k).lastSent ≠ 0) :
    ((goodFrame m s).ca.framesFor k).getLast? = some ⟨k, 0⟩ := by
  have out : (testedBefore g m k s).levelOut k := testedBefore_apart.level (.inl sent)
  rcases (goodFrame_apart held driven).level (tripSlot_levelOut g _ out) with nonzero | last
  · exact absurd silenced.lastSent nonzero
  · exact last

/-- What the record of a trip carries: the forward power and the limit of the arrival grant (R49, R50). -/
def overDriveReading (g : Setting) (m : MeasFrame) (k : Slot) (s : State) : Option (Int × Int) :=
  some ((m.forward.get k : Int), (((s.ca.slots.get k).grant * g.overLimit / 16 : Nat) : Int))

/-- A slot whose test finds it in the state `x` leaves Clear with its record, and the rest of the frame keeps that. -/
theorem testedBefore_raises (driven : s.overDriven g m k) {x : TripState} (left : x ≠ .clear) (kind : Kind) :
    TrippedAs (arrival m s) k x (s.pm.slots.get k).holdOff
        (tripRaised g (arrival m s) (m.forward.get k) k x kind (testedBefore g m k s)) ∧
      (s.fr.log.length ≤ 20 → s.fr.isActive (.ofSlot kind k) = false →
        Recorded (.ofSlot kind k) (overDriveReading g m k s)
          (tripRaised g (arrival m s) (m.forward.get k) k x kind (testedBefore g m k s))) := by
  have before : Apart (arrival m s) k s (testedBefore g m k s) := testedBefore_apart
  obtain ⟨enabled, running, settle⟩ := overDriven_slot driven
  have arrived : ((arrival m s).pm.slots.get k).settle = false := by rwa [arrival_pm]
  have grant : ((arrival m s).ca.slots.get k).grant = (s.ca.slots.get k).grant := by rw [(arrival_alike m s).slots k]
  have enabled' := before.enabled.trans enabled
  have running' : (testedBefore g m k s).restarting = false := by rwa [State.restarting, before.restart]
  obtain ⟨tripped, recorded⟩ := tripRaised_tripped g (m.forward.get k) kind arrived left enabled' running'
  rw [before.holdOff] at tripped
  rw [grant] at recorded
  exact ⟨tripped, fun short inactive => recorded (testedBefore_places short) (before.inactive inactive)⟩

/-- A slot without fill before the frame has none in its test. -/
theorem testedBefore_unfilled (fill : (s.ca.slots.get k).fill = 0) :
    ((testedBefore g m k s).ca.slots.get k).fill = 0 := by
  rcases (testedBefore_apart (g := g) (m := m)).fill with same | zero
  exacts [same.trans fill, zero]

/-- An over-driven slot with retries left, whose test finds no fill, is Tripped (R49). -/
theorem goodFrame_tripped (held : s.nc.setting = some g) (driven : s.overDriven g m k)
    (retries : (s.pm.slots.get k).retry < g.maxRetries) (fill : ((testedBefore g m k s).ca.slots.get k).fill = 0) :
    TrippedAs (arrival m s) k .tripped (.running (s.now + g.holdOff * 1000)) (goodFrame m s) ∧
      (s.fr.log.length ≤ 20 → s.fr.isActive (.ofSlot .ovd k) = false →
        Recorded (.ofSlot .ovd k) (overDriveReading g m k s) (goodFrame m s)) := by
  have before : Apart (arrival m s) k s (testedBefore g m k s) := testedBefore_apart
  obtain ⟨tripped, recorded⟩ := testedBefore_raises (x := .tripped) driven nofun .ovd
  have after := goodFrame_apart held driven
  obtain ⟨-, -, settle⟩ := overDriven_slot driven
  rw [tripSlot_tripped (by rwa [before.retry]) fill] at after
  have now : (tripRaised g (arrival m s) (m.forward.get k) k .tripped .ovd (testedBefore g m k s)).now = s.now := by
    rw [tripRaised_now, before.now]
  generalize tripRaised g (arrival m s) (m.forward.get k) k .tripped .ovd (testedBefore g m k s) = u at *
  have timed := startHoldOff_tripped (g.holdOff * 1000) tripped
  rw [State.timerFor, now] at timed
  exact ⟨after.trippedAs (by rwa [arrival_pm]) timed, fun short inactive =>
    after.recorded (startHoldOff_recorded _ (recorded short inactive))⟩

/-- An over-driven slot without retries left, or whose test finds it filling, is Latched (R50). -/
theorem goodFrame_latched (held : s.nc.setting = some g) (driven : s.overDriven g m k)
    (final : g.maxRetries ≤ (s.pm.slots.get k).retry ∨ ((testedBefore g m k s).ca.slots.get k).fill ≠ 0) :
    TrippedAs (arrival m s) k .latched (s.pm.slots.get k).holdOff (goodFrame m s) ∧
      (s.fr.log.length ≤ 20 → s.fr.isActive (.ofSlot .ovl k) = false →
        Recorded (.ofSlot .ovl k) (overDriveReading g m k s) (goodFrame m s)) := by
  have before : Apart (arrival m s) k s (testedBefore g m k s) := testedBefore_apart
  obtain ⟨latched, recorded⟩ := testedBefore_raises (x := .latched) driven nofun .ovl
  have after := goodFrame_apart held driven
  obtain ⟨-, -, settle⟩ := overDriven_slot driven
  rw [tripSlot_latched (by rwa [before.retry])] at after
  exact ⟨after.trippedAs (by rwa [arrival_pm]) latched, fun short inactive => after.recorded (recorded short inactive)⟩

/-- An over-driven slot leaves Clear one way or the other. -/
theorem goodFrame_leaves (held : s.nc.setting = some g) (driven : s.overDriven g m k) :
    ∃ x holdOff, TrippedAs (arrival m s) k x holdOff (goodFrame m s) := by
  by_cases final : g.maxRetries ≤ (s.pm.slots.get k).retry ∨ ((testedBefore g m k s).ca.slots.get k).fill ≠ 0
  · exact ⟨_, _, (goodFrame_latched held driven final).1⟩
  · rw [not_or, not_le, not_not] at final
    exact ⟨_, _, (goodFrame_tripped held driven final.1 final.2).1⟩

end

/-- Settles O30: the slots tested before leave the slot ready for its test, its trip silences it, and the rest of the frame's
work leaves it so. -/
theorem overDrivenSlotTrips : Obligations.OverDrivenSlotTrips := by
  intro bits s m g k acts parsed held driven
  have result : exec (.measurementFrame bits) s = .next (goodFrame (clampMeasurement m) s) := by
    rw [exec, execMeasurementFrame, unlessHeld_acts acts, parsed]
  have driven' : s.overDriven g (clampMeasurement m) k := driven
  obtain ⟨x, holdOff, leaves⟩ := goodFrame_leaves held driven'
  refine ⟨_, result, ⟨fun retries fill => ?_, fun final => ?_, fun retries fill quiet => ?_⟩,
    goodFrame_frames held driven' leaves.silenced, leaves.silenced.grant, leaves.silenced.lastSent, leaves.silenced.off,
    leaves.settle, leaves.silenced.cleanRun, fun none => leaves.antSettle (by rwa [arrival_pm])⟩
  · obtain ⟨tripped, recorded⟩ := goodFrame_tripped held driven' retries (testedBefore_unfilled fill)
    exact ⟨tripped.trip, tripped.holdOff, recorded⟩
  · obtain ⟨latched, recorded⟩ := goodFrame_latched held driven' (.inl final)
    exact ⟨latched.trip, latched.holdOff, recorded⟩
  · have filling : ((testedBefore g (clampMeasurement m) k s).ca.slots.get k).fill ≠ 0 := by
      have same : ((testedBefore g (clampMeasurement m) k s).ca.slots.get k).fill = (s.ca.slots.get k).fill :=
        testedBefore_fill quiet
      omega
    obtain ⟨latched, recorded⟩ := goodFrame_latched held driven' (.inr filling)
    exact ⟨latched.trip, latched.holdOff, recorded⟩

end Sys2Proof.Machine
end

section
/-! SUPPORT. Bytes written and read back (R180, R181, R183): one byte, two bytes high byte first, flags, and the slot
entries of beacons and dumps. -/

namespace Sys2Proof.Machine

/-! ## Bytes at their places -/

@[simp] theorem byteOf_toNat (n : Nat) : (byteOf n).toNat = n % 256 := BitVec.toNat_ofNat n 8

@[simp] theorem byteAt_cons_zero (b : Byte) (l : List Byte) : byteAt (b :: l) 0 = b.toNat := rfl

@[simp] theorem byteAt_cons_succ (b : Byte) (l : List Byte) (i : Nat) : byteAt (b :: l) (i + 1) = byteAt l i := rfl

theorem byteAt_append_right (pre l : List Byte) (i : Nat) : byteAt (pre ++ l) (pre.length + i) = byteAt l i := by
  simp [byteAt, List.getD_eq_getElem?_getD, List.getElem?_append_right]

/-- Two bytes, high byte first, carry a number modulo 65536. -/
@[simp] theorem word_of_bytes (n : Nat) : n / 256 % 256 * 256 + n % 256 = n % 65536 := by omega

theorem flag_eq (b : Bool) (weight : Nat) : flag b weight = b.toNat * weight := by
  cases b <;> simp [flag]

/-- A bit of a number is a flag where the number has the flag's value at its place. -/
theorem testBit_eq {x i : Nat} {b : Bool} (h : x / 2 ^ i % 2 = b.toNat) : x.testBit i = b := by
  rw [Nat.testBit_eq_decide_div_mod_eq, h]
  cases b <;> rfl

/-! ## Slot entries -/

/-- A slot entry within the widths of its places (R180). -/
def NbSlot.fits (n : NbSlot) : Prop :=
  n.operator ≤ 15 ∧ n.sector ≤ 255 ∧ n.load ≤ 1000 ∧ n.bias ≤ 12 ∧ n.fill ≤ 6

/-- A slot entry stands in its four bytes, whatever follows them. -/
theorem slotEntryBytes_shown {n : NbSlot} (fits : n.fits) (post : List Byte) :
    slotShown n (slotEntryBytes n ++ post) 0 := by
  obtain ⟨operator, sector, load, bias, fill⟩ := fits
  have full := n.full.toNat_lt
  have stale := n.stale.toNat_lt
  have off := n.off.toNat_lt
  unfold slotShown
  simp only [slotEntryBytes, be16, wordAt, List.cons_append, List.nil_append, Nat.zero_add, byteAt_cons_zero,
    byteAt_cons_succ, byteOf_toNat, word_of_bytes, flag_eq]
  refine ⟨?_, ?_, ?_, ?_, ?_, testBit_eq ?_, testBit_eq ?_, testBit_eq ?_⟩ <;> omega

/-- What is shown at a place is shown there behind other bytes. -/
theorem slotShown_behind {n : NbSlot} {l : List Byte} (pre : List Byte) (h : slotShown n l 0) :
    slotShown n (pre ++ l) pre.length := by
  unfold slotShown wordAt at h ⊢
  have first := byteAt_append_right pre l 0
  rw [Nat.add_zero] at first
  rw [first, byteAt_append_right, byteAt_append_right, byteAt_append_right pre l (2 + 1)]
  exact h

theorem slotEntryBytes_length (n : NbSlot) : (slotEntryBytes n).length = 4 := rfl

theorem slotEntries_length (l : List NbSlot) : (l.flatMap slotEntryBytes).length = 4 * l.length := by
  simp [List.length_flatMap, slotEntryBytes_length, Nat.mul_comm]

/-- Every entry of a list of slot entries stands at its place behind a header. -/
theorem slotEntries_shown {l : List NbSlot} {i : Nat} {n : NbSlot} (header : List Byte) (h : l[i]? = some n)
    (fits : n.fits) : slotShown n (header ++ l.flatMap slotEntryBytes) (header.length + 4 * i) := by
  obtain ⟨bound, rfl⟩ := List.getElem?_eq_some_iff.mp h
  have split : header ++ l.flatMap slotEntryBytes =
      (header ++ (l.take i).flatMap slotEntryBytes) ++
        (slotEntryBytes l[i] ++ (l.drop (i + 1)).flatMap slotEntryBytes) := by
    have entries : l.flatMap slotEntryBytes = (l.take i ++ l[i] :: l.drop (i + 1)).flatMap slotEntryBytes :=
      congrArg (List.flatMap slotEntryBytes) (by simp)
    rw [entries, List.flatMap_append, List.flatMap_cons, List.append_assoc]
  have place : header.length + 4 * i = (header ++ (l.take i).flatMap slotEntryBytes).length := by
    rw [List.length_append, slotEntries_length, List.length_take, Nat.min_eq_left bound.le]
  rw [split, place]
  exact slotShown_behind _ (slotEntryBytes_shown fits _)

/-- A receiver reads from a place the slot entry shown there. -/
theorem slotEntryAt_of_shown {n : NbSlot} {b : List Byte} {i : Nat} (h : slotShown n b i) : slotEntryAt b i = n := by
  obtain ⟨operator, bias, sector, load, fill, full, stale, off⟩ := h
  unfold slotEntryAt
  dsimp only
  rw [operator, bias, sector, load, fill, full, stale, off]

/-! ## Beacons -/

/-- Entries with distinct operators, none 0 and none seen, are all kept (R101). -/
theorem keepFirst_eq_self {l : List NbSlot} (seen : List Nat) (nodup : (l.map NbSlot.operator).Nodup)
    (fresh : ∀ e ∈ l, e.operator ≠ 0 ∧ e.operator ∉ seen) : keepFirst seen l = l := by
  induction l generalizing seen with
  | nil => rfl
  | cons e l ih =>
    obtain ⟨named, unseen⟩ := fresh e (List.mem_cons_self ..)
    obtain ⟨other, rest⟩ := List.nodup_cons.mp nodup
    rw [keepFirst, if_neg (not_or.mpr ⟨named, unseen⟩), ih _ rest]
    intro e' mem
    obtain ⟨named', unseen'⟩ := fresh e' (List.mem_cons_of_mem _ mem)
    refine ⟨named', fun again => ?_⟩
    rcases List.mem_cons.mp again with same | seen'
    · exact other (same ▸ List.mem_map_of_mem mem)
    · exact unseen' seen'

theorem clampSlotEntry_eq_self {n : NbSlot} (fits : n.fits) : clampSlotEntry n = n := by
  obtain ⟨-, -, load, bias, fill⟩ := fits
  rw [clampSlotEntry, Nat.min_eq_right load, Nat.min_eq_right bias, Nat.min_eq_right fill]

/-- A receiver reads the entries of a slot list one by one. -/
theorem slotEntries_readBack {l : List NbSlot} (header : List Byte) (fits : ∀ n ∈ l, n.fits) :
    ((List.range l.length).map fun i =>
      clampSlotEntry (slotEntryAt (header ++ l.flatMap slotEntryBytes) (header.length + 4 * i))) = l := by
  refine List.ext_getElem (by simp) fun i _ bound => ?_
  have fit := fits l[i] (List.getElem_mem bound)
  rw [List.getElem_map, List.getElem_range,
    slotEntryAt_of_shown (slotEntries_shown header (List.getElem?_eq_getElem bound) fit), clampSlotEntry_eq_self fit]

/-- The four bytes ahead of a beacon's slot entries (R95, R180). -/
def beaconHeader (s : State) : List Byte :=
  [byteOf (stateCodeOf s.nc.state * 64 + flag s.fr.saturated 32 + s.declaredPeriod),
    byteOf s.beaconSlots.length] ++ be16 s.fr.summary.toNat

theorem beaconPayload_eq (s : State) : s.beaconPayload = beaconHeader s ++ s.beaconSlots.flatMap slotEntryBytes := rfl

theorem nodeStateOf_stateCode (n : NodeState) : nodeStateOf (stateCode n) = n := by
  cases n <;> rfl

theorem stateCode_lt (n : NodeState) : stateCode n < 4 := by
  cases n <;> decide

/-- The slot entries of a beacon, slot by slot (R25, R96). -/
theorem beaconSlots_eq (s : State) :
    s.beaconSlots = (Slot.all.filter fun k => (s.ca.slots.get k).enabled).map fun k =>
      (s.ca.slots.get k).beaconEntry := by
  have slots : s.ca.slots.toList = Slot.all.map s.ca.slots.get := rfl
  rw [State.beaconSlots, slots, List.filter_map, List.map_map]
  rfl

theorem beaconSlots_length (s : State) : s.beaconSlots.length ≤ 6 := by
  rw [beaconSlots_eq, List.length_map]
  exact List.length_filter_le _ _

theorem beaconPayload_byteAt (s : State) (i : Nat) (h : i < 4) : byteAt s.beaconPayload i = byteAt (beaconHeader s) i := by
  have inside : i < (beaconHeader s).length := h
  rw [beaconPayload_eq, byteAt, byteAt, List.getD_append _ _ _ _ inside]

/-- The slot count of a beacon (R180). -/
theorem slotCountOf_beaconPayload (s : State) : slotCountOf s.beaconPayload = s.beaconSlots.length := by
  have few := beaconSlots_length s
  rw [slotCountOf, beaconPayload_byteAt s 1 (by omega)]
  show (byteOf s.beaconSlots.length).toNat % 8 = _
  rw [byteOf_toNat]
  omega

/-! ## The fault summary -/

/-- The kinds stand at their positions (R180). -/
theorem kindsInOrder_position (k : Kind) : kindsInOrder[k.position]? = some k := by
  cases k <;> rfl

theorem position_injective {j k : Kind} (h : j.position = k.position) : j = k := by
  have same := kindsInOrder_position j
  rw [h, kindsInOrder_position] at same
  exact (Option.some.inj same).symm

theorem position_lt (k : Kind) : k.position < 15 := by
  cases k <;> decide

theorem mem_kinds (k : Kind) : k ∈ Kind.all := by
  cases k <;> decide

/-- Bits set one by one. -/
theorem getLsbD_foldl_twoPow (p : Kind → Bool) (l : List Kind) (acc : BitVec 16) {i : Nat} (h : i < 16) :
    (l.foldl (fun acc k => if p k then acc ||| BitVec.twoPow 16 k.position else acc) acc).getLsbD i =
      (acc.getLsbD i || l.any fun k => p k && k.position == i) := by
  induction l generalizing acc with
  | nil => simp
  | cons k l ih =>
    rw [List.foldl_cons, ih, List.any_cons]
    cases p k
    · simp
    · have bit : decide (i = k.position) = (k.position == i) := by
        rw [Bool.eq_iff_iff, decide_eq_true_iff, beq_iff_eq]
        exact eq_comm
      simp [h, Bool.or_assoc, bit]

/-- A bit of the summary is the flag of the kind that stands there (R95). -/
theorem summary_getLsbD (fr : Recorder) {i : Nat} (h : i < 16) :
    fr.summary.getLsbD i = Kind.all.any fun k =>
      (fr.log.any (fun r => r.active && r.key.kind == k) && !maskedKind fr.mask k) && k.position == i := by
  rw [Recorder.summary, getLsbD_foldl_twoPow (fun k => fr.log.any (fun r => r.active && r.key.kind == k) &&
    !maskedKind fr.mask k) Kind.all 0#16 h, BitVec.getLsbD_zero, Bool.false_or]

/-- The flag of a kind (R95, R148): an Active record of the kind, which is not masked; the mask has no effect on a Severe
kind. -/
theorem summary_kind (fr : Recorder) (k : Kind) :
    fr.summary.getLsbD k.position = true ↔
      (∃ r ∈ fr.log, r.active = true ∧ r.key.kind = k) ∧
        (k.faultClass = .severe ∨ fr.mask.getLsbD k.position = false) := by
  have own : fr.summary.getLsbD k.position = true ↔
      (fr.log.any (fun r => r.active && r.key.kind == k) && !maskedKind fr.mask k) = true := by
    rw [summary_getLsbD fr (by have := position_lt k; omega), List.any_eq_true]
    constructor
    · rintro ⟨j, -, shown⟩
      obtain ⟨flagged, same⟩ := Bool.and_eq_true_iff.mp shown
      rwa [position_injective (by simpa using same : j.position = k.position)] at flagged
    · intro flagged
      exact ⟨k, mem_kinds k, by simp only [flagged, beq_self_eq_true, Bool.and_self]⟩
  rw [own, Bool.and_eq_true, List.any_eq_true]
  simp only [Bool.and_eq_true, beq_iff_eq, maskedKind, Bool.not_and, Bool.not_not, Bool.or_eq_true, Bool.not_eq_true']

/-- No kind stands at the sixteenth position. -/
theorem summary_last (fr : Recorder) : fr.summary.getLsbD 15 = false := by
  rw [summary_getLsbD fr (by omega), List.any_eq_false]
  intro k _ shown
  obtain ⟨-, same⟩ := Bool.and_eq_true_iff.mp shown
  have := position_lt k
  have : k.position = 15 := by simpa using same
  omega

/-- The first byte of a beacon carries node state, log-saturated flag and period (R95, R180). -/
theorem beaconPayload_first {s : State} {n : NodeState} {p : Nat} (state : s.nc.state = some n)
    (period : s.lc.beaconPeriod = some p) (high : p ≤ 16) :
    byteAt s.beaconPayload 0 = stateCode n * 64 + s.fr.saturated.toNat * 32 + p := by
  have code := stateCode_lt n
  have saturated := s.fr.saturated.toNat_lt
  rw [beaconPayload_byteAt s 0 (by omega)]
  simp only [beaconHeader, List.cons_append, byteAt_cons_zero, byteOf_toNat, flag_eq, state, stateCodeOf,
    State.declaredPeriod, period, Option.getD_some]
  omega

theorem beaconPayload_summary (s : State) : BitVec.ofNat 16 (wordAt s.beaconPayload 2) = s.fr.summary := by
  have word : wordAt s.beaconPayload 2 = s.fr.summary.toNat % 65536 := by
    rw [wordAt, beaconPayload_byteAt s 2 (by omega), beaconPayload_byteAt s 3 (by omega)]
    simp only [beaconHeader, be16, List.cons_append, List.nil_append, byteAt_cons_succ, byteAt_cons_zero, byteOf_toNat,
      word_of_bytes]
  rw [word, Nat.mod_eq_of_lt s.fr.summary.isLt, BitVec.ofNat_toNat, BitVec.setWidth_eq]

/-- Settles O15, by reading the header and the slot entries back byte by byte, and the summary bit by bit. -/
theorem beaconPayloadIsReadBack : Obligations.BeaconPayloadIsReadBack := by
  refine ⟨fun s n p state period low high ranges nodup => ?_, fun fr => ⟨summary_kind fr, summary_last fr⟩,
    beaconSlots_eq⟩
  have fits : ∀ e ∈ s.beaconSlots, e.fits := fun e mem => (ranges e mem).2
  have first := beaconPayload_first state period high
  have code := stateCode_lt n
  have saturated := s.fr.saturated.toNat_lt
  have few := beaconSlots_length s
  have count := slotCountOf_beaconPayload s
  have length : s.beaconPayload.length = 4 + 4 * s.beaconSlots.length := by
    rw [beaconPayload_eq, List.length_append, slotEntries_length]
    rfl
  refine ⟨?_, length, ?_, testBit_eq ?_⟩
  · rw [beaconShapeOk, count, length]
    simp only [Bool.and_eq_true, decide_eq_true_iff, beq_self_eq_true, and_true]
    exact ⟨by omega, few⟩
  · have reported : byteAt s.beaconPayload 0 / 64 = stateCode n := by omega
    have declared : clampNat 1 16 (byteAt s.beaconPayload 0 % 32) = p := by
      unfold clampNat
      omega
    have entries : ((List.range s.beaconSlots.length).map fun i =>
        clampSlotEntry (slotEntryAt s.beaconPayload (4 + 4 * i))) = s.beaconSlots :=
      slotEntries_readBack (beaconHeader s) fits
    rw [beaconContent, reported, nodeStateOf_stateCode, declared, beaconPayload_summary, count, entries,
      keepFirst_eq_self [] nodup]
    intro e mem
    obtain ⟨named, -⟩ := ranges e mem
    exact ⟨by omega, List.not_mem_nil⟩
  · rw [first]
    omega

end Sys2Proof.Machine
end

section
/-! SUPPORT. The records of the four tables as they are streamed (R181, R183), and the frame that carries the next one
(R177). -/

namespace Sys2Proof.Machine

/-! ## The records of the four tables -/

theorem classCode_eq (c : FaultClass) : classCode c = c.shown := by
  cases c <;> rfl

theorem shown_class_lt (c : FaultClass) : c.shown < 3 := by
  cases c <;> decide

theorem slot_number_le (k : Slot) : k.number ≤ 6 := by
  cases k <;> decide

/-- The number of a fault's slot in its byte, 0 for a fault without one (R181). -/
theorem slotNumber_lt (slot : Option Slot) : (slot.map Slot.number).getD 0 < 256 := by
  cases slot with
  | none => decide
  | some k =>
    have := slot_number_le k
    show k.number < 256
    omega

/-- A reading goes out modulo 65536 (R181). -/
theorem readingBytes_word (v : Int) : (((v % 65536).toNat % 65536 : Nat) : Int) = v % 65536 := by omega

theorem recordBytes_shown {r : Record} (sound : r.sound) : recordShown r (recordBytes r) := by
  obtain ⟨-, -, address, -, -, -, -, repeats, seq⟩ := sound
  have kind := position_lt r.key.kind
  have fault := shown_class_lt r.key.kind.faultClass
  have slot := slotNumber_lt r.key.slot
  have neighbour : r.key.neighbour.getD 0 < 256 := by
    cases named : r.key.neighbour with
    | none => decide
    | some a =>
      have := address a named
      show a < 256
      omega
  have active := r.active.toNat_lt
  have acked := r.acked.toNat_lt
  have reading := r.reading.isSome.toNat_lt
  have cleared := r.cleared.isSome.toNat_lt
  unfold recordShown
  simp only [recordBytes, readingBytes, be16, be32, wordAt, List.cons_append, List.nil_append, Nat.zero_add,
    byteAt_cons_zero, byteAt_cons_succ, byteOf_toNat, word_of_bytes, flag_eq, classCode_eq]
  have shown : kindsInOrder[r.key.kind.position % 256]? = some r.key.kind := by
    rw [Nat.mod_eq_of_lt (by omega)]
    exact kindsInOrder_position _
  refine ⟨rfl, ?_, shown, ?_, testBit_eq ?_, testBit_eq ?_, testBit_eq ?_, testBit_eq ?_, ?_, ?_, ?_, fun x held => ?_,
    fun none => by rw [none]; exact ⟨rfl, rfl⟩, ?_, ?_, ?_⟩
  case refine_10 =>
    have held : r.reading = some x := held
    rw [held]
    exact ⟨readingBytes_word x.1, readingBytes_word x.2⟩
  all_goals omega

theorem ageCode_eq (a : AgeState) : ageCode a = a.shown := by
  cases a <;> rfl

theorem shown_age_lt (a : AgeState) : a.shown < 3 := by
  cases a <;> decide

theorem stateCode_eq (n : NodeState) : stateCode n = n.shown.toNat := by
  cases n <;> rfl

theorem any_slots (v : Six SlotRecord) (p : SlotRecord → Bool) : v.any p = true ↔ ∃ k, p (v.get k) = true := by
  have slots : v.toList = Slot.all.map v.get := rfl
  rw [Six.any, slots, List.any_map, List.any_eq_true]
  exact ⟨fun ⟨k, _, h⟩ => ⟨k, h⟩, fun ⟨k, h⟩ => ⟨k, k.mem_all, h⟩⟩

/-- The first test of R100: an enabled slot with an entry's operator and sector. -/
theorem relates_iff (s : State) (e : Entry) :
    s.relates e = true ↔ ∃ k, (s.ca.slots.get k).enabled = true ∧ ∃ n ∈ e.slots,
      n.operator = (s.ca.slots.get k).operator ∧ n.sector = (s.ca.slots.get k).sector := by
  simp [State.relates, any_slots, relatesTo]

/-- The second test of R100: an enabled slot with an entry's operator. -/
theorem shares_iff (s : State) (e : Entry) :
    s.shares e = true ↔ ∃ k, (s.ca.slots.get k).enabled = true ∧ ∃ n ∈ e.slots,
      n.operator = (s.ca.slots.get k).operator := by
  simp [State.shares, any_slots]

/-- The five bytes ahead of a neighbour record's slot entries (R181). -/
def entryHeader (s : State) (e : Entry) : List Byte :=
  [byteOf (e.address * 4 + ageCode e.age),
    byteOf (stateCode e.reported * 64 + flag (s.relates e) 32 + flag (s.shares e) 16 + (e.period - 1))] ++
    be16 e.summary.toNat ++ [byteOf (min 255 ((s.now - e.heard) / 1000))]

theorem entryBytes_shown {s : State} {e : Entry} (sound : e.sound s.nc.strap.toNat) :
    entryShown s e (entryBytes e (s.relates e) (s.shares e) s.now) := by
  obtain ⟨-, address, -, low, high, -, -, slots⟩ := sound
  have header : entryBytes e (s.relates e) (s.shares e) s.now = entryHeader s e ++ e.slots.flatMap slotEntryBytes := rfl
  have age := shown_age_lt e.age
  have code := stateCode_lt e.reported
  have summary := e.summary.isLt
  have relates := (s.relates e).toNat_lt
  have shares := (s.shares e).toNat_lt
  have entries (i : Nat) (n : NbSlot) (at_i : e.slots[i]? = some n) : slotShown n
      (entryBytes e (s.relates e) (s.shares e) s.now) (5 + 4 * i) := by
    obtain ⟨-, operator, sector, load, bias, fill⟩ := slots n (List.mem_of_getElem? at_i)
    rw [header]
    exact slotEntries_shown (entryHeader s e) at_i ⟨operator, sector, load, bias, fill⟩
  have length : (entryBytes e (s.relates e) (s.shares e) s.now).length = 5 + 4 * e.slots.length := by
    rw [header, List.length_append, slotEntries_length]
    rfl
  have related : (byteAt (entryBytes e (s.relates e) (s.shares e) s.now) 1).testBit 5 = s.relates e ∧
      (byteAt (entryBytes e (s.relates e) (s.shares e) s.now) 1).testBit 4 = s.shares e := by
    simp only [entryBytes, List.cons_append, byteAt_cons_zero, byteAt_cons_succ, byteOf_toNat, flag_eq]
    exact ⟨testBit_eq (by omega), testBit_eq (by omega)⟩
  unfold entryShown
  rw [related.1, related.2]
  refine ⟨length, ?_, ?_, ?_, relates_iff s e, shares_iff s e, ?_, ?_, ?_, entries⟩ <;>
    simp only [entryBytes, be16, wordAt, List.cons_append, List.nil_append, byteAt_cons_zero, byteAt_cons_succ,
      byteOf_toNat, word_of_bytes, flag_eq, ageCode_eq, ← stateCode_eq]
  all_goals omega

theorem tripCode_eq (t : TripState) : tripCode t = t.shown := by
  cases t <;> rfl

theorem shown_trip_lt (t : TripState) : t.shown < 3 := by
  cases t <;> decide

theorem slotRecordBytes_shown {k : Slot} {r : SlotRecord} {budget : Nat} (fits : r.fits) (low : budget < 65536) :
    slotRecordShown k r budget (slotRecordBytes k r budget) := by
  obtain ⟨operator, sector, nominal, floor, maximum, riseFull, load, bias, fill, request, grant, lastSent⟩ := fits
  have number := slot_number_le k
  have trip := shown_trip_lt r.trip
  have enabled := r.enabled.toNat_lt
  have stale := r.stale.toNat_lt
  have full := r.full.toNat_lt
  have off := r.off.toNat_lt
  unfold slotRecordShown
  simp only [slotRecordBytes, be16, wordAt, List.cons_append, List.nil_append, byteAt_cons_zero, byteAt_cons_succ,
    byteOf_toNat, word_of_bytes, flag_eq, tripCode_eq]
  refine ⟨rfl, ?_, testBit_eq ?_, ?_, ?_, ?_, ?_, ?_, ?_, ?_, testBit_eq ?_, testBit_eq ?_, testBit_eq ?_, ?_, ?_, ?_,
    ?_, ?_, ?_, ?_, ?_⟩ <;> omega

/-- A signed byte is read back as it was written (R183). -/
theorem signedByte_toInt {v : Int} (low : -128 ≤ v) (high : v ≤ 127) : (signedByte v).toInt = v := by
  rw [signedByte, BitVec.toInt_ofInt, Int.bmod_def]
  omega

theorem signedAt_cons_zero (b : Byte) (l : List Byte) : signedAt (b :: l) 0 = b.toInt := rfl

theorem signedAt_cons_succ (b : Byte) (l : List Byte) (i : Nat) : signedAt (b :: l) (i + 1) = signedAt l i := rfl

theorem rateCode_eq (rate : BitRate) : rateCode rate = rate.shown := by
  cases rate <;> rfl

theorem shown_rate_lt (rate : BitRate) : rate.shown < 3 := by
  cases rate <;> decide

theorem nodeSettingBytes_shown {g : Setting} (fits : g.fits) : settingShown g (nodeSettingBytes g) := by
  obtain ⟨bCfg, weight, shift, lFull, tSample, ⟨dLow, dHigh⟩, ⟨cLow, cHigh⟩, overLimit, returnLimit, tripFilter,
    maxRetries, holdOff, beaconPeriod, tRound, biasMax, fillMax, hUp, hDown, lAct, joinCount, -⟩ := fits
  have rate := shown_rate_lt g.rate
  have mask := g.mask.isLt
  unfold settingShown
  simp only [nodeSettingBytes, be16, wordAt, List.cons_append, List.nil_append, Nat.zero_add, byteAt_cons_zero,
    byteAt_cons_succ, signedAt_cons_zero, signedAt_cons_succ, byteOf_toNat, word_of_bytes, rateCode_eq]
  refine ⟨rfl, ?_, ?_, ?_, ?_, ?_, signedByte_toInt dLow dHigh, signedByte_toInt cLow cHigh, ?_, ?_, ?_, ?_, ?_, ?_, ?_,
    ?_, ?_, ?_, ?_, ?_, ?_, ?_, ?_⟩ <;> omega

theorem slotSettingBytes_shown {e : SlotSetting} (operator : e.operator ≤ 15) (sector : e.sector ≤ 255)
    (nominal : e.nominal < 65536) (floor : e.floor < 65536) (maximum : e.maximum < 65536) (riseFull : e.riseFull ≤ 255) :
    slotSettingShown e (slotSettingBytes e) := by
  unfold slotSettingShown
  simp only [slotSettingBytes, be16, wordAt, List.cons_append, List.nil_append, byteAt_cons_zero, byteAt_cons_succ,
    byteOf_toNat, word_of_bytes]
  refine ⟨rfl, ?_, ?_, ?_, ?_, ?_, ?_⟩ <;> omega

/-! ## The records of a table by position -/

theorem ofNumber_number (k : Slot) : Slot.ofNumber k.number = some k := by
  cases k <;> rfl

theorem ofNumber_succ_pred (k : Slot) : Slot.ofNumber (k.number - 1 + 1) = some k := by
  cases k <;> rfl

theorem ofNumber_none {i : Nat} (h : 7 ≤ i) : Slot.ofNumber i = none := by
  obtain ⟨j, rfl⟩ := Nat.exists_eq_add_of_le' h
  rfl

/-- The tables hold what R181 gives, each record in its place. -/
theorem streamRecord_shown (s : State) :
    (∀ i r, s.fr.log[i]? = some r → r.sound → ∃ b, s.streamRecord 1 i = some b ∧ recordShown r b) ∧
    (∀ i e, s.nt[i]? = some e → e.sound s.nc.strap.toNat → ∃ b, s.streamRecord 2 i = some b ∧ entryShown s e b) ∧
    (∀ k, (s.ca.slots.get k).fits → s.ca.budget < 65536 →
      ∃ b, s.streamRecord 3 (k.number - 1) = some b ∧ slotRecordShown k (s.ca.slots.get k) s.ca.budget b) ∧
    (∀ g, s.nc.setting = some g → g.fits →
      (∃ b, s.streamRecord 4 0 = some b ∧ settingShown g b) ∧
      ∀ k, ∃ b, s.streamRecord 4 k.number = some b ∧ slotSettingShown (g.slots.get k) b) := by
  refine ⟨fun i r held sound => ⟨_, ?_, recordBytes_shown sound⟩, fun i e held sound => ⟨_, ?_, entryBytes_shown sound⟩,
    fun k fits low => ⟨_, ?_, slotRecordBytes_shown fits low⟩, fun g held fits => ⟨⟨_, ?_, nodeSettingBytes_shown fits⟩,
      fun k => ?_⟩⟩
  · simp [State.streamRecord, held]
  · simp [State.streamRecord, held]
  · simp [State.streamRecord, ofNumber_succ_pred]
  · simp [State.streamRecord, held]
  · have number : k.number ≠ 0 := by cases k <;> decide
    obtain ⟨-, -, -, -, -, -, -, -, -, -, -, -, -, -, -, -, -, -, -, -, slots⟩ := fits
    obtain ⟨operator, sector, nominal, floor, maximum, riseFull⟩ := slots k
    refine ⟨_, ?_, slotSettingBytes_shown operator sector nominal floor maximum riseFull⟩
    simp [State.streamRecord, held, number, ofNumber_number]

/-- A table holds no record at its end or past it. -/
theorem streamRecord_none (s : State) (i : Nat) :
    (s.fr.log.length ≤ i → s.streamRecord 1 i = none) ∧ (s.nt.length ≤ i → s.streamRecord 2 i = none) ∧
      (6 ≤ i → s.streamRecord 3 i = none) ∧ (s.nc.setting = none ∨ 7 ≤ i → s.streamRecord 4 i = none) := by
  refine ⟨fun past => ?_, fun past => ?_, fun past => ?_, ?_⟩
  · simp [State.streamRecord, past]
  · simp [State.streamRecord, past]
  · simp [State.streamRecord, ofNumber_none (show 7 ≤ i + 1 by omega)]
  · rintro (unheld | past)
    · simp [State.streamRecord, unheld]
    · have position : i ≠ 0 := by omega
      cases held : s.nc.setting <;> simp [State.streamRecord, held, position, ofNumber_none past]

/-! ## The next stream frame -/

/-- An entry joins an ordered queue behind those of its own priority and ahead of the later ones (R88). -/
theorem insertEntry_split (e : TxEntry) {q : List TxEntry} (sorted : q.Pairwise fun a b => a.priority ≤ b.priority) :
    insertEntry e q =
      q.filter (fun x => decide (x.priority ≤ e.priority)) ++ e :: q.filter (fun x => decide (e.priority < x.priority)) := by
  induction q with
  | nil => rfl
  | cons x q ih =>
    obtain ⟨first, rest⟩ := List.pairwise_cons.mp sorted
    unfold insertEntry
    split_ifs with later
    · have behind : ∀ y ∈ x :: q, e.priority < y.priority := by
        intro y mem
        rcases List.mem_cons.mp mem with rfl | mem
        exacts [later, later.trans_le (first y mem)]
      have none : (x :: q).filter (fun y => decide (y.priority ≤ e.priority)) = [] :=
        List.filter_eq_nil_iff.mpr fun y mem => by simpa using behind y mem
      have all : (x :: q).filter (fun y => decide (e.priority < y.priority)) = x :: q :=
        List.filter_eq_self.mpr fun y mem => by simpa using behind y mem
      rw [none, all, List.nil_append]
    · rw [List.filter_cons_of_pos (by simpa using by omega), List.filter_cons_of_neg (by simpa using by omega), ih rest,
        List.cons_append]

/-- When the next stream frame may enter the queue (R90, R177). -/
theorem mayBuild_iff (s : State) (c : Stream) :
    (c.final = false ∧ s.lc.answers ∧ s.lc.hasStream = false ∧ s.lc.sharedFree ∧ s.cu.current = none ∧
        s.restartTakesOver = false) ↔
      c.final = false ∧ s.lc.mode ≠ .listenOnly ∧ (s.lc.txQueue.filter fun e => e.kind != .beacon).length < 3 ∧
        s.cu.current = none ∧ s.nc.restartDue = false ∧ s.nc.restart ≠ .inProgress ∧
          ∀ e ∈ s.lc.txQueue, e.kind ≠ .stream := by
  have answers : s.lc.answers = true ↔ s.lc.mode ≠ .listenOnly := by simp [Line.answers]
  have stream : s.lc.hasStream = false ↔ ∀ e ∈ s.lc.txQueue, e.kind ≠ .stream := by simp [Line.hasStream]
  have free : s.lc.sharedFree = true ↔ (s.lc.txQueue.filter fun e => e.kind != .beacon).length < 3 :=
    decide_eq_true_iff
  have restart : s.restartTakesOver = false ↔ s.nc.restartDue = false ∧ s.nc.restart ≠ .inProgress := by
    simp [State.restartTakesOver, State.restarting]
  rw [answers, stream, free, restart]
  exact ⟨fun ⟨more, answers, stream, free, idle, due, restart⟩ => ⟨more, answers, free, idle, due, restart, stream⟩,
    fun ⟨more, answers, free, idle, due, restart, stream⟩ => ⟨more, answers, stream, free, idle, due, restart⟩⟩

theorem streamFrameBuild_exec {s : State} {c : Stream} (acts : s.acts) (runs : s.cu.stream = some c) :
    exec .streamFrameBuild s = .next
      (if c.final = false ∧ s.lc.answers ∧ s.lc.hasStream = false ∧ s.lc.sharedFree ∧ s.cu.current = none ∧
          s.restartTakesOver = false then buildStreamFrame c s else s) := by
  rw [exec, execStreamFrameBuild, unlessHeld_acts acts, runs]

theorem buildStreamFrame_record {s : State} {c : Stream} {record : List Byte}
    (held : s.streamRecord c.table c.next = some record) :
    buildStreamFrame c s =
      { s with
        lc :=
          { s.lc with
            txQueue :=
              insertEntry (.stream c.requester
                (streamHeader c (flag (decide (c.next + 1 = c.stop)) 1) ++ record) (decide (c.next + 1 = c.stop)))
                s.lc.txQueue }
        cu :=
          { s.cu with stream := some { c with next := c.next + 1, final := decide (c.next + 1 = c.stop) } } } := by
  simp only [buildStreamFrame, held, Option.isSome_some, if_true]

theorem buildStreamFrame_ended {s : State} {c : Stream} (past : s.streamRecord c.table c.next = none) :
    buildStreamFrame c s =
      { s with
        lc := { s.lc with txQueue := insertEntry (.stream c.requester (streamHeader c 2) true) s.lc.txQueue }
        cu := { s.cu with stream := some { c with final := true } } } := by
  simp only [buildStreamFrame, past, Option.isSome_none, Bool.false_eq_true, if_false]

/-- The marker of a frame with a record: 8 for the last (R181). -/
theorem streamHeader_last (c : Stream) (last : Bool) :
    streamHeader c (flag last 1) = [c.tag, byteOf (c.table * 32 + if last then 8 else 0), byteOf c.next] := by
  cases last <;> rfl

/-- Settles O60, by the place in the ordered queue, and the layouts record by record. -/
theorem streamFrameCarriesNextRecord : Obligations.StreamFrameCarriesNextRecord := by
  refine ⟨fun s c acts runs => ?_, fun s => ?_⟩
  · intro free may
    have result := streamFrameBuild_exec acts runs
    refine ⟨fun mayNot => ?_, fun mays sorted => ?_⟩
    · rw [result, if_neg (mt (mayBuild_iff s c).mp mayNot)]
    · rw [if_pos ((mayBuild_iff s c).mpr mays)] at result
      cases held : s.streamRecord c.table c.next with
      | some record =>
        rw [buildStreamFrame_record held] at result
        refine ⟨_, streamHeader c (flag (decide (c.next + 1 = c.stop)) 1) ++ record, decide (c.next + 1 = c.stop), result, ?_,
          rfl, ?_, nofun⟩
        · dsimp only
          rw [insertEntry_split _ sorted]
          rfl
        · rintro record' ⟨⟩
          exact ⟨rfl, by rw [streamHeader_last], rfl⟩
      | none =>
        rw [buildStreamFrame_ended held] at result
        refine ⟨_, streamHeader c 2, true, result, ?_, rfl, nofun, fun _ => ⟨rfl, rfl, rfl⟩⟩
        dsimp only
        rw [insertEntry_split _ sorted]
        rfl
  · obtain ⟨faults, neighbours, slots, setting⟩ := streamRecord_shown s
    exact ⟨faults, neighbours, slots, setting, streamRecord_none s⟩

end Sys2Proof.Machine
end

section
/-! SUPPORT. The law of the Fault Log under its operations (R141 to R144, R146, R151, R153): what a record holds by its key
and its reading, and that raise, clear and acknowledgement keep at most 32 records, one for each key, each sound. -/

namespace Sys2Proof.Machine

/-! ## A record by its key and its reading -/

/-- Slot, neighbour address and reading stand where the kind takes them, the address 1 to 60 (R141, R142). -/
def Key.carries (key : Key) (x : Option (Int × Int)) : Prop :=
  (key.slot.isSome = true ↔ key.kind = .ovd ∨ key.kind = .ovl) ∧
  (key.neighbour.isSome = true ↔ key.kind = .nbl) ∧ (∀ a ∈ key.neighbour, 1 ≤ a ∧ a ≤ 60) ∧
  (x.isSome = true ↔ key.kind ∈ [.ant, .ovd, .ovl, .thx, .thm])

/-- Cleared time, acknowledgement, repeat count and sequence number of a sound record (R142, R146). -/
def Record.regular (r : Record) : Prop :=
  (r.cleared.isNone = r.active) ∧ (r.acked = true → r.active = true) ∧ 1 ≤ r.repeats ∧ r.repeats ≤ 255 ∧ r.seq < 65536

theorem sound_iff (r : Record) : r.sound ↔ r.key.carries r.reading ∧ r.regular := by
  unfold Record.sound Key.carries Record.regular
  tauto

theorem carries_plain {kind : Kind} (h : kind ∈ [.dup, .cfg, .adr, .flr, .smp, .lnq, .iso, .txf, .rxo]) :
    (Key.plain kind).carries none := by
  unfold Key.carries Key.plain
  cases kind <;> simp at h ⊢

theorem carries_plain_reading {kind : Kind} (h : kind ∈ [.ant, .thx, .thm]) (x : Int × Int) :
    (Key.plain kind).carries (some x) := by
  unfold Key.carries Key.plain
  cases kind <;> simp at h ⊢

theorem carries_ofSlot {kind : Kind} (h : kind = .ovd ∨ kind = .ovl) (k : Slot) (x : Int × Int) :
    (Key.ofSlot kind k).carries (some x) := by
  rcases h with rfl | rfl <;> simp [Key.carries, Key.ofSlot]

theorem carries_ofNeighbour {a : Nat} (low : 1 ≤ a) (high : a ≤ 60) : (Key.ofNeighbour a).carries none := by
  simp [Key.carries, Key.ofNeighbour, low, high]

/-- A key is that of its kind alone, of its kind and slot, or of its neighbour address (R141). -/
theorem carries_canonical {key : Key} {x : Option (Int × Int)} (h : key.carries x) :
    (key = .plain key.kind ∧ key.kind ≠ .ovd ∧ key.kind ≠ .ovl ∧ key.kind ≠ .nbl) ∨
    (∃ k, key = .ofSlot key.kind k ∧ (key.kind = .ovd ∨ key.kind = .ovl)) ∨ ∃ a, key = .ofNeighbour a := by
  obtain ⟨kind, slot, neighbour⟩ := key
  obtain ⟨hs, hn, -, -⟩ := h
  dsimp only at hs hn ⊢
  cases slot with
  | none =>
    cases neighbour with
    | none =>
      simp only [Option.isSome_none, Bool.false_eq_true, false_iff, not_or] at hs hn
      exact .inl ⟨rfl, hs.1, hs.2, hn⟩
    | some a =>
      obtain rfl := hn.mp rfl
      exact .inr (.inr ⟨a, rfl⟩)
  | some k =>
    have slotted := hs.mp rfl
    cases neighbour with
    | none => exact .inr (.inl ⟨k, rfl, slotted⟩)
    | some a =>
      have nbl := hn.mp rfl
      rw [nbl] at slotted
      simp at slotted

theorem key_of_slot {key : Key} {x : Option (Int × Int)} {k : Slot} (h : key.carries x) (slot : key.slot = some k) :
    key = .ofSlot key.kind k := by
  rcases carries_canonical h with ⟨plain, -⟩ | ⟨j, ofSlot, -⟩ | ⟨a, ofNeighbour⟩
  · rw [plain] at slot
    cases slot
  · rw [ofSlot] at slot
    obtain rfl := Option.some.inj slot
    exact ofSlot
  · rw [ofNeighbour] at slot
    cases slot

theorem key_of_neighbour {key : Key} {x : Option (Int × Int)} {a : Nat} (h : key.carries x)
    (neighbour : key.neighbour = some a) : key = .ofNeighbour a := by
  rcases carries_canonical h with ⟨plain, -⟩ | ⟨j, ofSlot, -⟩ | ⟨b, ofNeighbour⟩
  · rw [plain] at neighbour
    cases neighbour
  · rw [ofSlot] at neighbour
    cases neighbour
  · rw [ofNeighbour] at neighbour
    obtain rfl := Option.some.inj neighbour
    exact ofNeighbour

theorem key_of_kind {key : Key} {x : Option (Int × Int)} (h : key.carries x) (ovd : key.kind ≠ .ovd)
    (ovl : key.kind ≠ .ovl) (nbl : key.kind ≠ .nbl) : key = .plain key.kind := by
  rcases carries_canonical h with ⟨plain, -⟩ | ⟨j, -, slotted⟩ | ⟨a, ofNeighbour⟩
  · exact plain
  · exact absurd slotted (not_or.mpr ⟨ovd, ovl⟩)
  · rw [ofNeighbour] at nbl
    exact absurd rfl nbl

/-! ## The law -/

/-- At most 32 records, at most one for each key, each sound, under a 16-bit sequence number (R141, R142, R144). -/
def Recorder.lawful (fr : Recorder) : Prop :=
  fr.log.length ≤ 32 ∧ (fr.log.map Record.key).Nodup ∧ (∀ r ∈ fr.log, r.sound) ∧ fr.nextSeq < 65536

/-- A node derated or muted has a last good frame (R38, R41). -/
def Intake.measured (mi : Intake) : Prop := 0 < mi.derate ∨ mi.mute = true → mi.lastFrame.isSome = true

theorem faultLogLaw_iff (s : State) : FaultLogLaw s ↔ s.fr.lawful ∧ s.mi.measured := by
  unfold FaultLogLaw Recorder.lawful Intake.measured
  tauto

theorem lawful_of_log {fr fr' : Recorder} (log : fr'.log = fr.log) (seq : fr'.nextSeq = fr.nextSeq) (h : fr.lawful) :
    fr'.lawful := by
  unfold Recorder.lawful
  rwa [log, seq]

/-- What becomes of the records one by one keeps the law, if each keeps its key and stays sound, or leaves the log. -/
theorem lawful_filterMap {fr fr' : Recorder} {f : Record → Option Record} (log : fr'.log = fr.log.filterMap f)
    (seq : fr'.nextSeq = fr.nextSeq) (each : ∀ r, ∀ r' ∈ f r, r'.key = r.key ∧ (r.sound → r'.sound)) (h : fr.lawful) :
    fr'.lawful := by
  have keys (l : List Record) : ((l.filterMap f).map Record.key).Sublist (l.map Record.key) := by
    induction l with
    | nil => exact .slnil
    | cons r l ih =>
      cases made : f r with
      | none =>
        rw [List.filterMap_cons_none made]
        exact ih.cons _
      | some r' =>
        rw [List.filterMap_cons_some made, List.map_cons, List.map_cons, (each r r' made).1]
        exact ih.cons_cons _
  obtain ⟨short, nodup, sound, low⟩ := h
  unfold Recorder.lawful
  rw [log, seq]
  refine ⟨(List.length_filterMap_le _ _).trans short, nodup.sublist (keys _), fun r' mem => ?_, low⟩
  obtain ⟨r, from_, made⟩ := List.mem_filterMap.mp mem
  exact (each r r' made).2 (sound r from_)

theorem newRecord_sound {seq now : Nat} {key : Key} {x : Option (Int × Int)} (low : seq < 65536) (h : key.carries x) :
    (newRecord seq now key x).sound :=
  (sound_iff _).mpr ⟨h, rfl, nofun, le_rfl, Nat.le_of_ble_eq_true rfl, low⟩

theorem reactivate_sound {now : Nat} {x : Option (Int × Int)} {r : Record} (h : r.key.carries x) (sound : r.sound) :
    (r.reactivate now x).sound := by
  obtain ⟨-, -, acked, least, most, seq⟩ := (sound_iff r).mp sound
  refine (sound_iff _).mpr ⟨h, rfl, fun _ => rfl, ?_, Nat.min_le_left _ _, seq⟩
  exact Nat.le_min.mpr ⟨by decide, Nat.le_add_left _ _⟩

theorem ended_sound {now : Nat} {r r' : Record} (h : r' ∈ r.ended now) : r'.key = r.key ∧ (r.sound → r'.sound) := by
  unfold Record.ended at h
  split_ifs at h with acked
  · cases h
  · obtain rfl := Option.some.inj h
    refine ⟨rfl, fun sound => ?_⟩
    obtain ⟨carries, -, -, least, most, seq⟩ := (sound_iff r).mp sound
    exact (sound_iff _).mpr ⟨carries, rfl, fun h => absurd h acked, least, most, seq⟩

/-- A record of a new key is created in a free place, in that of the oldest Cleared record, or not at all (R144). -/
theorem create_lawful {fr : Recorder} {key : Key} {x : Option (Int × Int)} (now : Nat) (carries : key.carries x)
    (absent : ∀ r ∈ fr.log, r.key ≠ key) (h : fr.lawful) : (fr.create now key x).lawful := by
  obtain ⟨short, nodup, sound, low⟩ := h
  have appended {log : List Record} (sub : log.Sublist fr.log) (room : log.length < 32) (f : Recorder)
      (hf : f.log = log ++ [newRecord fr.nextSeq now key x]) (hs : f.nextSeq = (fr.nextSeq + 1) % 65536) :
      f.lawful := by
    unfold Recorder.lawful
    rw [hf, hs]
    refine ⟨by rw [List.length_append]; exact room, ?_, fun r mem => ?_, Nat.mod_lt _ (by decide)⟩
    · rw [List.map_append, List.nodup_append]
      refine ⟨nodup.sublist (sub.map _), List.nodup_singleton _, ?_⟩
      rintro _ old _ new rfl
      obtain ⟨r, mem, same⟩ := List.mem_map.mp old
      exact absent r (sub.subset mem) (same.trans (List.mem_singleton.mp new))
    · rcases List.mem_append.mp mem with old | new
      · exact sound r (sub.subset old)
      · rw [List.mem_singleton.mp new]
        exact newRecord_sound low carries
  unfold Recorder.create
  dsimp only
  split_ifs with free full
  · exact appended (.refl _) free _ rfl rfl
  · exact ⟨short, nodup, sound, low⟩
  · refine appended (log := dropOldestCleared fr.log) List.eraseP_sublist ?_ _ rfl rfl
    obtain ⟨r, mem, cleared⟩ : ∃ r ∈ fr.log, (!r.active) = true := by simpa using full
    have := List.length_pos_of_mem mem
    rw [dropOldestCleared, List.length_eraseP_of_mem mem cleared]
    omega

theorem raise_lawful {fr : Recorder} {key : Key} {x : Option (Int × Int)} (now : Nat) (carries : key.carries x)
    (h : fr.lawful) : (fr.raise now key x).lawful := by
  unfold Recorder.raise
  split_ifs with active known
  · exact h
  · refine lawful_filterMap (fr := fr) (f := fun r => some (if r.key = key then r.reactivate now x else r)) ?_ rfl ?_ h
    · rw [evaluate_log, List.filterMap_eq_map']
    · rintro r _ ⟨⟩
      split_ifs with same
      · exact ⟨rfl, reactivate_sound (same ▸ carries)⟩
      · exact ⟨rfl, id⟩
  · refine lawful_of_log rfl rfl (create_lawful now carries ?_ h)
    simpa using known

theorem clear_lawful {fr : Recorder} (now : Nat) (key : Key) (h : fr.lawful) : (fr.clear now key).lawful := by
  unfold Recorder.clear
  split_ifs
  · refine lawful_filterMap rfl rfl (fun r r' made => ?_) h
    split_ifs at made
    · exact ended_sound made
    · obtain rfl := Option.some.inj made
      exact ⟨rfl, id⟩
  · exact h

theorem clearAll_lawful {fr : Recorder} (now : Nat) (h : fr.lawful) : (fr.clearAll now).lawful := by
  refine lawful_filterMap rfl rfl (fun r r' made => ?_) h
  split_ifs at made
  · exact ended_sound made
  · obtain rfl := Option.some.inj made
    exact ⟨rfl, id⟩

theorem acknowledge_lawful {fr : Recorder} (upTo : Nat) (h : fr.lawful) : (fr.acknowledge upTo).lawful := by
  refine lawful_filterMap rfl rfl (fun r r' made => ?_) h
  split_ifs at made with newly active
  · obtain rfl := Option.some.inj made
    refine ⟨rfl, fun sound => ?_⟩
    obtain ⟨carries, cleared, -, rest⟩ := (sound_iff r).mp sound
    exact (sound_iff _).mpr ⟨carries, cleared, fun _ => active, rest⟩
  · cases made
  · obtain rfl := Option.some.inj made
    exact ⟨rfl, id⟩

/-! ## Active records -/

/-- An acknowledgement ends no Active record (R151). -/
theorem acknowledge_isActive {fr : Recorder} {upTo : Nat} {key : Key} (h : (fr.acknowledge upTo).isActive key = true) :
    fr.isActive key = true := by
  obtain ⟨r', mem, same, active⟩ := (isActive_iff _ _).mp h
  obtain ⟨r, old, made⟩ := List.mem_filterMap.mp mem
  refine (isActive_iff _ _).mpr ⟨r, old, ?_⟩
  split_ifs at made with newly was
  · obtain rfl := Option.some.inj made
    exact ⟨same, was⟩
  · obtain rfl := Option.some.inj made
    exact ⟨same, active⟩

theorem isActive_of_log {fr fr' : Recorder} (log : fr'.log = fr.log) (key : Key) : fr'.isActive key = fr.isActive key := by
  unfold Recorder.isActive
  rw [log]

/-- An Active record after a raise was Active before or is that of the key raised. -/
theorem isActive_of_raise {fr : Recorder} {now : Nat} {j key : Key} {x : Option (Int × Int)}
    (h : (fr.raise now key x).isActive j = true) : j = key ∨ fr.isActive j = true := by
  by_cases same : j = key
  · exact .inl same
  · exact .inr (by rwa [raise_isActive_other same] at h)

/-- An Active record after a clear was Active before and is not that of the key cleared. -/
theorem isActive_of_clear {fr : Recorder} {now : Nat} {j key : Key} (h : (fr.clear now key).isActive j = true) :
    j ≠ key ∧ fr.isActive j = true := by
  have other : j ≠ key := by
    rintro rfl
    rw [clear_inactive] at h
    cases h
  exact ⟨other, by rwa [clear_isActive_other other] at h⟩

/-- The key of a record in a lawful log is one that its kind takes. -/
theorem carries_of_isActive {fr : Recorder} {key : Key} (h : fr.lawful) (active : fr.isActive key = true) :
    ∃ x, key.carries x := by
  obtain ⟨r, mem, rfl, -⟩ := (isActive_iff _ _).mp active
  obtain ⟨-, -, sound, -⟩ := h
  exact ⟨r.reading, ((sound_iff r).mp (sound r mem)).1⟩

/-! ## Faults that bring no more than their record -/

/-- A fault of the Warning or Info class brings its record alone (R143). -/
theorem raiseFault_mild {key : Key} (x : Option (Int × Int)) (s : State) (h : key.kind.faultClass ≠ .severe) :
    raiseFault key x s = raiseRecord key x s := by
  unfold raiseFault
  rw [if_neg h]

/-- Where no node state can be left for Withdrawn a fault brings its record and what it asks of the line (R149). -/
theorem raiseFault_grounded {key : Key} (x : Option (Int × Int)) {s : State}
    (h : s.onAir = false ∨ s.nc.restart = .inProgress) :
    raiseFault key x s = { s with fr := s.fr.raise s.now key x, lc := (raiseFault key x s).lc } := by
  have stays {u : State} (nc : u.nc = s.nc) : withdraw u = u :=
    withdraw_stays (by rwa [State.onAir, nc])
  have alarmIf (b : Bool) : (if b then alarm (raiseRecord key x s) else raiseRecord key x s) =
      { raiseRecord key x s with lc := (if b then alarm (raiseRecord key x s) else raiseRecord key x s).lc } := by
    split_ifs
    · apply State.ext_blocks <;> simp
    · rfl
  unfold raiseFault
  dsimp only
  generalize (!s.fr.isActive key && (raiseRecord key x s).fr.isActive key) = became
  rw [alarmIf]
  generalize (if became then alarm (raiseRecord key x s) else raiseRecord key x s).lc = lc
  have same (b : Bool) (u : State) (nc : u.nc = s.nc) : (if b then withdraw u else u) = u := by
    rw [stays nc, ite_self]
  rw [same _ { raiseRecord key x s with lc := lc } rfl, same _ { raiseRecord key x s with lc := lc } rfl]
  split_ifs
  · apply State.ext_blocks <;> simp
  · rfl
  · rfl

end Sys2Proof.Machine
end

section
/-! SUPPORT. What an Active record says of the node (R43, R87, R144), and that the shared operations keep it and the law of
the Fault Log. -/

namespace Sys2Proof.Machine

/-! ## What an Active record says -/

/-- What an Active record of a key says of the node (R144). -/
def State.bears (s : State) (key : Key) : Prop :=
  key.kind ≠ .rxo ∧
  (key.kind = .ovd → ∀ k ∈ key.slot, (s.ca.slots.get k).trip = .tripped) ∧
  (key.kind = .ovl → ∀ k ∈ key.slot, (s.ca.slots.get k).trip = .latched) ∧
  (∀ a ∈ key.neighbour, ∃ e ∈ s.nt, e.address = a ∧ e.age = .silent) ∧
  (key.kind = .ant → s.pm.antLatch = true) ∧ (key.kind = .flr → ¬ s.untested) ∧
  (key.kind = .cfg ∨ key.kind = .adr → s.nc.state = some .unconfigured ∧ s.nc.restart ≠ .inProgress)

theorem activeLaw_iff (s : State) : ActiveLaw s ↔ ∀ key, s.fr.isActive key = true → s.bears key := by
  constructor
  · intro law key active
    obtain ⟨r, mem, rfl, standing⟩ := (isActive_iff _ _).mp active
    exact law r mem standing
  · intro h r mem active
    exact h r.key ((isActive_iff _ _).mpr ⟨r, mem, rfl, active⟩)

/-- The kinds whose Active records say nothing of the node. -/
def Kind.free (kind : Kind) : Prop := kind ∈ [.thx, .dup, .thm, .smp, .lnq, .iso, .txf]

theorem bears_free {kind : Kind} (s : State) (h : kind.free) : s.bears (.plain kind) := by
  unfold State.bears Key.plain
  unfold Kind.free at h
  cases kind <;> simp at h ⊢

/-- The node state outside a soft restart is one in which CFG or ADR stands (R158, R160). -/
def State.refused (s : State) : Prop := s.nc.state = some .unconfigured ∧ s.nc.restart ≠ .inProgress

/-- What records say stands on where trips and table stay, a latch stays set, and the node state does not leave what FLR,
CFG and ADR need. -/
theorem bears_mono {s t : State} (trip : ∀ k, (t.ca.slots.get k).trip = (s.ca.slots.get k).trip) (nt : t.nt = s.nt)
    (latch : s.pm.antLatch = true → t.pm.antLatch = true) (tested : ¬ s.untested → ¬ t.untested)
    (refused : s.refused → t.refused) {key : Key} (h : s.bears key) : t.bears key := by
  obtain ⟨rxo, ovd, ovl, nbl, ant, flr, cfg⟩ := h
  refine ⟨rxo, fun kind k slot => ?_, fun kind k slot => ?_, by rwa [nt], fun kind => latch (ant kind),
    fun kind => tested (flr kind), fun kind => refused (cfg kind)⟩
  · rw [trip]
    exact ovd kind k slot
  · rw [trip]
    exact ovl kind k slot

theorem untested_of_same {s t : State} (state : t.nc.state = s.nc.state) (restart : t.nc.restart = s.nc.restart) :
    t.untested ↔ s.untested := by
  rw [State.untested, State.untested, State.configured, State.configured, State.onAir, State.onAir, state, restart]

theorem bears_of_same {s t : State} (trip : ∀ k, (t.ca.slots.get k).trip = (s.ca.slots.get k).trip) (nt : t.nt = s.nt)
    (latch : t.pm.antLatch = s.pm.antLatch) (state : t.nc.state = s.nc.state) (restart : t.nc.restart = s.nc.restart)
    {key : Key} (h : s.bears key) : t.bears key := by
  refine bears_mono trip nt (fun set => latch.trans set) (untested_of_same state restart).not.mpr (fun r => ?_) h
  rwa [State.refused, state, restart]

/-! ## The relation -/

/-- The law of the Fault Log is kept; and under a premise on the node also what Active records say of it. -/
structure Logged (p : Prop) (s t : State) : Prop where
  law : FaultLogLaw s → FaultLogLaw t
  active : p → FaultLogLaw s → ActiveLaw s → ActiveLaw t

section
variable {p : Prop} {s t u : State}

theorem Logged.refl (s : State) : Logged p s s := ⟨id, fun _ _ => id⟩

theorem Logged.trans (h : Logged p s t) (h' : Logged p t u) : Logged p s u :=
  ⟨fun law => h'.law (h.law law), fun hp law active => h'.active hp (h.law law) (h.active hp law active)⟩

/-- A change that leaves the log: what records say goes on standing. -/
theorem Logged.of_log (log : t.fr.log = s.fr.log) (seq : t.fr.nextSeq = s.fr.nextSeq)
    (measured : s.mi.measured → t.mi.measured) (bears : p → ∀ key, s.bears key → t.bears key) : Logged p s t := by
  refine ⟨fun law => ?_, fun hp _ active => ?_⟩
  · rw [faultLogLaw_iff] at law ⊢
    exact ⟨lawful_of_log log seq law.1, measured law.2⟩
  · rw [activeLaw_iff] at active ⊢
    intro key standing
    rw [isActive_of_log log] at standing
    exact bears hp key (active key standing)

/-- A raise together with changes of other blocks: the record raised says what stands. -/
theorem Logged.of_raise {now : Nat} {key : Key} {x : Option (Int × Int)} (fr : t.fr = s.fr.raise now key x)
    (mi : t.mi = s.mi) (carries : FaultLogLaw s → key.carries x) (raised : p → t.fr.isActive key = true → t.bears key)
    (bears : p → ∀ j, s.bears j → t.bears j) : Logged p s t := by
  refine ⟨fun law => ?_, fun hp _ active => ?_⟩
  · have fits := carries law
    rw [faultLogLaw_iff] at law ⊢
    rw [fr, mi]
    exact ⟨raise_lawful now fits law.1, law.2⟩
  · rw [activeLaw_iff] at active ⊢
    intro j standing
    by_cases same : j = key
    · subst same
      exact raised hp standing
    · rw [fr, raise_isActive_other same] at standing
      exact bears hp j (active j standing)

/-- A clear together with changes of other blocks: what the other records say goes on standing. -/
theorem Logged.of_clear {now : Nat} {key : Key} (fr : t.fr = s.fr.clear now key) (mi : t.mi = s.mi)
    (bears : p → FaultLogLaw s → ∀ j, s.fr.isActive j = true → j ≠ key → s.bears j → t.bears j) : Logged p s t := by
  refine ⟨fun law => ?_, fun hp law active => ?_⟩
  · rw [faultLogLaw_iff] at law ⊢
    rw [fr, mi]
    exact ⟨clear_lawful now key law.1, law.2⟩
  · rw [activeLaw_iff] at active ⊢
    intro j standing
    rw [fr] at standing
    obtain ⟨other, before⟩ := isActive_of_clear standing
    exact bears hp law j before other (active j before)

/-- Changes of the clock, the line, the Spread Unit, the Command Unit and the queue. -/
theorem Logged.of_blocks (ca : t.ca = s.ca) (pm : t.pm = s.pm) (nt : t.nt = s.nt) (fr : t.fr = s.fr) (nc : t.nc = s.nc)
    (mi : t.mi = s.mi) : Logged p s t :=
  .of_log (by rw [fr]) (by rw [fr]) (by rw [mi]; exact id) fun _ _ =>
    bears_of_same (fun _ => by rw [ca]) nt (by rw [pm]) (by rw [nc]) (by rw [nc])

/-! ## The log's own operations -/

theorem raiseRecord_logged {key : Key} {x : Option (Int × Int)} (carries : FaultLogLaw s → key.carries x)
    (bears : p → s.bears key) : Logged p s (raiseRecord key x s) :=
  .of_raise rfl rfl carries (fun hp _ => bears_of_same (fun _ => rfl) rfl rfl rfl rfl (bears hp)) fun _ _ =>
    bears_of_same (fun _ => rfl) rfl rfl rfl rfl

theorem clearRecord_logged (key : Key) : Logged p s (clearRecord key s) :=
  .of_clear rfl rfl fun _ _ _ _ _ => bears_of_same (fun _ => rfl) rfl rfl rfl rfl

/-! ## Allocation -/

theorem evaluateOff_logged : Logged p s (evaluateOff s) :=
  .of_log (by rw [evaluateOff_fr]) (by rw [evaluateOff_fr]) (by rw [evaluateOff_mi]; exact id) fun _ _ =>
    bears_of_same (fun _ => by rw [evaluateOff_slot]) (evaluateOff_nt s) (by rw [evaluateOff_pm]) (by rw [evaluateOff_nc])
      (by rw [evaluateOff_nc])

/-- Case C needs a participating slot, so a node in which tests run (R6, R14). -/
theorem tested_of_floorsShort (h : floorsShort s.requests s.floors s.ca.budget = true) : ¬ s.untested := by
  intro untested
  have quiet (k : Slot) : s.participates k = false := by
    rcases untested with off | restarting
    · have air : s.onAir = false := by
        rw [State.configured, Bool.or_eq_false_iff] at off
        exact off.1
      simp [State.participates, air]
    · simp [State.participates, State.restarting, restarting]
  have none : s.requests.sum = 0 := by simp only [Six.sum_slots, requests_silent (quiet _)]
  simp [floorsShort, none] at h

theorem pass_bears {key : Key} : s.bears key → (pass s).bears key :=
  bears_of_same (fun _ => by rw [pass_slot_frame]) (pass_nt s) (by rw [pass_pm_frame]) (by rw [pass_nc]) (by rw [pass_nc])

theorem pass_logged : Logged p s (pass s) := by
  have fr := pass_fr s
  rw [reportShort] at fr
  split_ifs at fr with short
  · refine .of_raise fr (pass_mi s) (fun _ => carries_plain (by simp)) (fun _ _ => ?_) fun _ _ => pass_bears
    have tested := tested_of_floorsShort short
    rw [← untested_of_same (s := s) (t := pass s) (by rw [pass_nc]) (by rw [pass_nc])] at tested
    simp [State.bears, Key.plain, tested]
  · exact .of_clear fr (pass_mi s) fun _ _ _ _ _ => pass_bears

theorem reallot_logged : Logged p s (pass (evaluateOff s)) := evaluateOff_logged.trans pass_logged

theorem zeroTrims_logged : Logged p s (zeroTrims s) :=
  .of_log rfl rfl id fun _ _ => bears_of_same (s := s) (t := zeroTrims s) (fun _ => by rw [zeroTrims_slot]) rfl rfl rfl rfl

/-- A change of the Protection Monitor that leaves the antenna latch set where it is set. -/
theorem setMonitor_logged {pm : Protection} (latch : s.pm.antLatch = true → pm.antLatch = true) :
    Logged p s { s with pm := pm } :=
  .of_log rfl rfl id fun _ _ => bears_mono (s := s) (t := { s with pm := pm }) (fun _ => rfl) rfl latch id id

/-- A change of Node Control under which FLR, CFG and ADR say what stands. -/
theorem setControl_logged {nc : Control} (tested : p → ¬ s.untested → ¬ ({ s with nc := nc } : State).untested)
    (refused : p → s.refused → ({ s with nc := nc } : State).refused) : Logged p s { s with nc := nc } :=
  .of_log rfl rfl id fun hp _ =>
    bears_mono (s := s) (t := { s with nc := nc }) (fun _ => rfl) rfl id (tested hp) (refused hp)

/-- A change of Node Control outside node state and restart in progress. -/
theorem setControl_logged_same {nc : Control} (state : nc.state = s.nc.state)
    (restart : nc.restart = .inProgress ↔ s.nc.restart = .inProgress) : Logged p s { s with nc := nc } := by
  have untested : ({ s with nc := nc } : State).untested ↔ s.untested := by
    simp [State.untested, State.configured, State.onAir, state, restart]
  refine setControl_logged (fun _ => untested.not.mpr) fun _ refused => ?_
  rw [State.refused]
  dsimp only
  rwa [state, ne_eq, restart]

/-! ## Alarm, break, changes of the node state -/

theorem alarm_logged : Logged p s (alarm s) :=
  .of_blocks (alarm_ca s) (alarm_pm s) (alarm_nt s) (alarm_fr s) (alarm_nc s) (alarm_mi s)

theorem breakRequest_logged : Logged p s (breakRequest s) :=
  .of_blocks (breakRequest_ca s) (breakRequest_pm s) (breakRequest_nt s) (breakRequest_fr s) (breakRequest_nc s)
    (breakRequest_mi s)

theorem stateChanged_logged : Logged p s (stateChanged s) := reallot_logged.trans alarm_logged

/-- From a configured state to a configured state: FLR may stand, CFG and ADR do not. -/
theorem setState_logged {state : NodeState} {join : Timer} (before : p → s.configured = true)
    (after : state ≠ .unconfigured) :
    Logged p s { s with nc := { s.nc with state := some state, joinTimer := join } } := by
  refine setControl_logged (fun _ tested => ?_) fun hp refused => ?_
  · rw [State.untested, not_or] at tested ⊢
    refine ⟨?_, tested.2⟩
    cases state <;> simp [State.configured, State.onAir] at after ⊢
  · have configured := before hp
    simp [State.configured, State.onAir, refused.1] at configured

theorem enterWithdrawn_logged (h : p → s.configured = true) : Logged p s (enterWithdrawn s) := by
  have abandoned : Logged p s (abandonRound s) := .of_blocks rfl rfl rfl rfl rfl rfl
  have left : Logged p s { abandonRound s with nc := { s.nc with state := some .withdrawn, joinTimer := .stopped } } :=
    abandoned.trans (setState_logged h (by decide))
  rw [enterWithdrawn_eq]
  exact ((left.trans zeroTrims_logged).trans stateChanged_logged).trans
    breakRequest_logged

theorem withdraw_logged : Logged p s (withdraw s) := by
  unfold withdraw
  split_ifs with h
  · exact enterWithdrawn_logged fun _ => by rw [State.configured, h.1, Bool.true_or]
  · exact .refl s

/-- What a raised fault brings besides its record keeps the laws. -/
theorem raiseFault_logged_raised (key : Key) (x : Option (Int × Int)) :
    Logged p (raiseRecord key x s) (raiseFault key x s) := by
  have alarmIf (b : Bool) (u : State) : Logged p u (if b then alarm u else u) := by
    split_ifs
    exacts [alarm_logged, .refl u]
  have withdrawIf (b : Bool) (u : State) : Logged p u (if b then withdraw u else u) := by
    split_ifs
    exacts [withdraw_logged, .refl u]
  unfold raiseFault
  split_ifs
  · exact (((alarmIf _ _).trans (withdrawIf _ _)).trans (withdrawIf _ _)).trans breakRequest_logged
  · exact (alarmIf _ _).trans (withdrawIf _ _)
  · exact .refl _

theorem raiseFault_logged {key : Key} {x : Option (Int × Int)} (carries : FaultLogLaw s → key.carries x)
    (bears : p → s.bears key) : Logged p s (raiseFault key x s) :=
  (raiseRecord_logged carries bears).trans (raiseFault_logged_raised key x)

/-- A fault of a kind that says nothing of the node and carries no reading. -/
theorem raiseFault_free_logged {kind : Kind} (h : kind ∈ [.dup, .smp, .lnq, .iso, .txf]) :
    Logged p s (raiseFault (.plain kind) none s) := by
  refine raiseFault_logged (fun _ => carries_plain ?_) fun _ => bears_free s ?_ <;>
    cases kind <;> simp [Kind.free] at h ⊢

/-- A fault of the temperature, with its reading. -/
theorem raiseFault_thermal_logged {kind : Kind} (h : kind = .thm ∨ kind = .thx) {x : Option (Int × Int)}
    (read : FaultLogLaw s → x.isSome = true) : Logged p s (raiseFault (.plain kind) x s) := by
  refine raiseFault_logged (fun law => ?_) fun _ => bears_free s ?_
  · obtain ⟨y, rfl⟩ := Option.isSome_iff_exists.mp (read law)
    exact carries_plain_reading (by rcases h with rfl | rfl <;> simp) y
  · rcases h with rfl | rfl <;> simp [Kind.free]

/-- Entry to Joining, from what its change of the node state leaves (R161). -/
theorem enterJoining_logged (before : Logged p s { u with nc := { u.nc with state := some .joining } }) :
    Logged p s (enterJoining u) := by
  have timer (w : State) : Logged p w (startSampleTimer w) := .of_log rfl rfl id fun _ _ => id
  have timers (w : State) (period : Nat) (join : Timer) : Logged p w
      { startBeaconTimer period w with nc := { (startBeaconTimer period w).nc with joinTimer := join } } :=
    .of_log rfl rfl id fun _ _ => id
  refine (before.trans (zeroTrims_logged.trans stateChanged_logged)).trans ?_
  unfold enterJoining
  dsimp only
  split
  · exact timers _ _ _
  · exact (timer _).trans (timers _ _ _)
  · exact (timer _).trans (timers _ _ _)

theorem enterServing_logged (h : p → s.configured = true) : Logged p s (enterServing s) := by
  have timer (w : State) (round : Timer) : Logged p w { w with su := { w.su with roundTimer := round } } :=
    .of_blocks rfl rfl rfl rfl rfl rfl
  have entered : Logged p s { s with nc := { s.nc with state := some .serving, joinTimer := .stopped } } :=
    setState_logged h (by decide)
  unfold enterServing
  dsimp only
  have settled := entered.trans stateChanged_logged
  generalize stateChanged _ = u at settled ⊢
  exact settled.trans (timer u _)

end

end Sys2Proof.Machine
end

section
/-! SUPPORT. The parts of the meanings keep the law of the Fault Log and what Active records say: measurement frames, the
line, the commands, the Neighbour Table, the image read and the soft restart. -/

namespace Sys2Proof.Machine

section
variable {p : Prop} {s t u : State}

/-! ## Trips -/

/-- A slot that leaves Clear has no Active record of a trip, so nothing said of it falls (R49, R50). -/
theorem slotTripped_logged {k : Slot} (x : TripState) (clear : (s.ca.slots.get k).trip = .clear) :
    Logged p s (slotTripped k x s) := by
  have other {j : Slot} (off : (s.ca.slots.get j).trip ≠ .clear) :
      ((slotTripped k x s).ca.slots.get j).trip = (s.ca.slots.get j).trip := by
    rw [slotTripped, Six.get_modify, if_neg]
    rintro rfl
    exact off clear
  refine .of_log rfl rfl id fun _ key bears => ?_
  obtain ⟨rxo, ovd, ovl, rest⟩ := bears
  refine ⟨rxo, fun kind j slot => ?_, fun kind j slot => ?_, rest⟩
  · rw [other (by rw [ovd kind j slot]; decide)]
    exact ovd kind j slot
  · rw [other (by rw [ovl kind j slot]; decide)]
    exact ovl kind j slot

theorem silenceLevel_trip (k j : Slot) (s : State) :
    ((silenceLevel k s).ca.slots.get j).trip = (s.ca.slots.get j).trip := by
  unfold silenceLevel
  split_ifs
  · rfl
  · rw [sendLevel_slot_frame]

theorem silenceLevel_logged (k : Slot) : Logged p s (silenceLevel k s) := by
  have frame := silenceLevel_frame k s
  refine .of_log ?_ ?_ ?_ fun _ _ => bears_of_same (silenceLevel_trip k · s) ?_ ?_ ?_ ?_ <;> rw [frame]
  exact id

theorem tripActions_logged (k : Slot) : Logged p s (tripActions k s) := by
  have settle (u : State) : Logged p u (settleMonitor k u) := setMonitor_logged id
  rw [tripActions_eq]
  exact ((evaluateOff_logged.trans (silenceLevel_logged k)).trans (settle _)).trans pass_logged

theorem tripActions_trip (k : Slot) (s : State) :
    ((tripActions k s).ca.slots.get k).trip = (s.ca.slots.get k).trip := by
  have settled : ((settleMonitor k (silenceLevel k (evaluateOff s))).ca.slots.get k).trip = (s.ca.slots.get k).trip := by
    show ((silenceLevel k (evaluateOff s)).ca.slots.get k).trip = _
    rw [silenceLevel_trip, evaluateOff_slot]
  rw [tripActions_eq, pass_slot_frame]
  exact settled

/-- The record of a trip says the state that the trip leaves the slot in (R49, R50). -/
theorem tripRaised_logged {k : Slot} (g : Setting) (a : State) (forward : Nat) {x : TripState} {kind : Kind}
    (named : x = .tripped ∧ kind = .ovd ∨ x = .latched ∧ kind = .ovl) (clear : (s.ca.slots.get k).trip = .clear) :
    Logged p s (tripRaised g a forward k x kind s) := by
  have trip : ((tripActions k (slotTripped k x s)).ca.slots.get k).trip = x := by
    rw [tripActions_trip, slotTripped, Six.get_modify_same]
  refine ((slotTripped_logged x clear).trans (tripActions_logged k)).trans
    (raiseFault_logged (fun _ => carries_ofSlot ?_ k _) fun _ => ?_)
  · exact named.imp And.right And.right
  · rcases named with ⟨rfl, rfl⟩ | ⟨rfl, rfl⟩ <;> simp [State.bears, Key.ofSlot, trip]

theorem tripSlot_logged {k : Slot} (g : Setting) (a : State) (forward : Nat) (clear : (s.ca.slots.get k).trip = .clear) :
    Logged p s (tripSlot g a forward k s) := by
  have holdOff (u : State) (length : Nat) : Logged p u (startHoldOff k length u) := setMonitor_logged id
  rcases tripSlot_cases g a forward k s with tripped | latched
  · rw [tripped]
    exact (tripRaised_logged g a forward (.inl ⟨rfl, rfl⟩) clear).trans (holdOff _ _)
  · rw [latched]
    exact tripRaised_logged g a forward (.inr ⟨rfl, rfl⟩) clear

/-! ## Measurement frames -/

theorem testSlot_logged {a : State} {k : Slot} (g : Setting) (m : MeasFrame)
    (same : (s.ca.slots.get k).trip = (a.ca.slots.get k).trip) : Logged p s (testSlot g a m s k) := by
  have filtered (n : Nat) : Logged p s (setFilter k n s) := setMonitor_logged id
  unfold testSlot
  dsimp only
  split_ifs with tested
  · refine tripSlot_logged g a _ (same.trans ?_)
    simp only [State.slotTested, State.participates, Bool.and_eq_true, beq_iff_eq] at tested
    tauto
  all_goals exact filtered _

/-- Each slot is tested in the trip state of the arrival, which the tests of the others leave (R47). -/
theorem testSlots_logged {a : State} {l : List Slot} (nodup : l.Nodup) (g : Setting) (m : MeasFrame)
    (same : ∀ k ∈ l, (s.ca.slots.get k).trip = (a.ca.slots.get k).trip) :
    Logged p s (l.foldl (testSlot g a m) s) := by
  induction l generalizing s with
  | nil => exact .refl s
  | cons j l ih =>
    obtain ⟨new, nodup⟩ := List.nodup_cons.mp nodup
    have first := testSlot_logged (p := p) g m (same j List.mem_cons_self)
    refine first.trans (ih nodup fun k mem => ?_)
    have other : Apart a k s (testSlot g a m s j) := testSlot_apart (ne_of_mem_of_not_mem mem new) g a m
    exact other.trip.trans (same k (List.mem_cons_of_mem _ mem))

theorem testAntenna_logged (g : Setting) (a : State) (m : MeasFrame) : Logged p s (testAntenna g a m s) := by
  have filtered (n : Nat) : Logged p s (setAntFilter n s) := setMonitor_logged id
  unfold testAntenna latchAntenna
  split_ifs
  · refine (setMonitor_logged (pm := { s.pm with antLatch := true, antFilter := 0 }) fun _ => rfl).trans
      (raiseFault_logged (fun _ => carries_plain_reading (by simp) _) fun _ => ?_)
    simp [State.bears, Key.plain]
  · exact filtered _
  · exact filtered _
  · exact filtered _

theorem protect_logged (m : MeasFrame) : Logged p s (protect m s) := by
  have cleared : Logged p s (clearFilters s) := setMonitor_logged id
  have settled (u : State) : Logged p u (clearSettled s u) := setMonitor_logged id
  unfold protect
  dsimp only
  split
  · exact cleared.trans (settled _)
  · exact ((testSlots_logged Slot.all_nodup _ m fun _ _ => rfl).trans (testAntenna_logged _ _ m)).trans (settled _)

theorem thermal_logged (g : Setting) (x : Int) (measured : s.mi.lastFrame.isSome = true) :
    Logged p s (thermal g x s) := by
  have derate (before after : Nat) (u : State) : Logged p u (reportDerate g before after x u) := by
    unfold reportDerate
    split_ifs
    exacts [raiseFault_thermal_logged (.inl rfl) fun _ => rfl, clearRecord_logged _, .refl u]
  have mute (before after : Bool) (u : State) : Logged p u (reportMute g before after x u) := by
    unfold reportMute
    split_ifs
    exacts [raiseFault_thermal_logged (.inr rfl) fun _ => rfl, clearRecord_logged _, .refl u]
  have decided (d : Nat) (muted : Bool) :
      Logged p s (recomputeBudget { s with mi := { s.mi with derate := d, mute := muted } }) :=
    .of_log rfl rfl (fun _ _ => measured) fun _ _ => id
  unfold thermal
  dsimp only
  split_ifs
  · exact .refl s
  · exact ((decided _ _).trans ((derate _ _ _).trans (mute _ _ _))).trans reallot_logged

theorem refreshSampleTimer_lastFrame (s : State) : (refreshSampleTimer s).mi.lastFrame = s.mi.lastFrame := by
  unfold refreshSampleTimer
  split <;> rfl

theorem arrival_lastFrame (m : MeasFrame) (s : State) : (arrival m s).mi.lastFrame = some m := by
  rw [arrival, loadWork_mi, refreshSampleTimer_lastFrame]

theorem refreshSampleTimer_logged : Logged p s (refreshSampleTimer s) := by
  unfold refreshSampleTimer
  split
  · exact .refl s
  · exact .of_log rfl rfl id fun _ _ => id
  · exact .of_log rfl rfl id fun _ _ => id

theorem loadWork_logged (m : MeasFrame) : Logged p s (loadWork m s) := by
  have loaded (g : Setting) : Logged p s (updateLoads g m s) :=
    .of_clear rfl rfl fun _ _ _ _ _ =>
      bears_of_same (s := s) (t := updateLoads g m s) (fun k => by rw [(updateLoads_alike g m s).slots k]) rfl rfl rfl rfl
  unfold loadWork
  split
  · exact .refl s
  · split_ifs
    exacts [loaded _, .refl s]

theorem goodFrame_logged (m : MeasFrame) : Logged p s (goodFrame m s) := by
  have stored : Logged p s { s with mi := { s.mi with lastFrame := some m } } :=
    .of_log rfl rfl (fun _ _ => rfl) fun _ _ => id
  have arrived : Logged p s (arrival m s) := (stored.trans refreshSampleTimer_logged).trans (loadWork_logged m)
  have measured : (protect m (arrival m s)).mi.lastFrame.isSome = true := by rw [protect_mi, arrival_lastFrame]; rfl
  refine (arrived.trans (protect_logged m)).trans ?_
  show Logged p _ (thermalWork m (protect m (arrival m s)))
  unfold thermalWork
  split
  · exact .refl _
  · exact thermal_logged _ _ measured

/-! ## The line -/

/-- The line's own fields are outside the log and what it says. -/
theorem setLine_logged (lc : Line) : Logged p s { s with lc := lc } := .of_blocks rfl rfl rfl rfl rfl rfl

theorem reach_logged (due : Nat) : Logged p s (s.reach due) := .of_blocks rfl rfl rfl rfl rfl rfl

theorem restartReplyGone_logged : Logged p s (restartReplyGone s) := by
  unfold restartReplyGone
  split_ifs
  exacts [setControl_logged_same rfl Iff.rfl, .refl s]

theorem reportLeft_logged (heard : Bool) (e : TxEntry) : Logged p s (reportLeft heard s e) := by
  cases e with
  | marker urgent => exact .refl s
  | reply dest payload restart =>
    unfold reportLeft
    dsimp only
    split_ifs
    exacts [restartReplyGone_logged, .refl s]
  | stream dest payload final =>
    unfold reportLeft streamFrameEnded
    dsimp only
    split
    exacts [.refl s, .of_blocks rfl rfl rfl rfl rfl rfl]

theorem removeAttempted_logged (k : EntryKind) (heard : Bool) : Logged p s (removeAttempted k heard s) := by
  unfold removeAttempted
  split
  · exact .refl s
  · exact (setLine_logged _).trans (reportLeft_logged _ _)

theorem emptyForListenOnly_logged : Logged p s (emptyForListenOnly s) := by
  have emptied (u : State) (lc : Line) (cu : Commands) : Logged p u { u with lc := lc, cu := cu } :=
    .of_blocks rfl rfl rfl rfl rfl rfl
  unfold emptyForListenOnly
  split_ifs
  exacts [restartReplyGone_logged.trans (emptied _ _ _), emptied s _ _]

theorem listenOnly_logged {kind : Kind} (h : kind ∈ [.dup, .smp, .lnq, .iso, .txf]) (n : Nat) :
    Logged p s (startCoolDown n (emptyForListenOnly (raiseFault (.plain kind) none (setMode .listenOnly s)))) :=
  (((setLine_logged _).trans (raiseFault_free_logged h)).trans emptyForListenOnly_logged).trans (setLine_logged _)

theorem duplicateAddress_logged : Logged p s (duplicateAddress s) := by
  unfold duplicateAddress
  split
  · exact listenOnly_logged (by simp) _
  · exact (((setLine_logged _).trans emptyForListenOnly_logged).trans (setLine_logged _)).trans
      (raiseFault_free_logged (by simp))
  · exact raiseFault_free_logged (by simp)

theorem recordBeacon_logged (heard : Bool) : Logged p s (recordBeacon heard s) := by
  unfold recordBeacon
  dsimp only
  split_ifs
  · exact (setLine_logged _).trans (clearRecord_logged _)
  · exact (setLine_logged _).trans (raiseFault_free_logged (by simp))
  · exact setLine_logged _

theorem settle_logged (a : Attempt) (queued : Bool) : Logged p s (settle a queued s) := by
  have removed (u : State) : Logged p u (if queued then removeAttempted a.owner false u else u) := by
    split_ifs
    exacts [removeAttempted_logged _ _, .refl u]
  have probe (u : State) : Logged p u (probeFailed u) :=
    (((setLine_logged _).trans (setLine_logged _)).trans (raiseFault_free_logged (by simp))).trans
      emptyForListenOnly_logged
  have mode (u : State) : Logged p u
      (if a.probe && u.lc.mode == .probing then probeFailed u
      else if u.lc.mode == .normal && decide (Config.errorLimit ≤ u.lc.txErrors) then enterListenOnly u
      else u) := by
    split_ifs
    exacts [probe u, listenOnly_logged (by simp) _, .refl u]
  unfold settle
  dsimp only
  split
  · exact (setLine_logged _).trans (setLine_logged _)
  · exact ((((setLine_logged _).trans (setLine_logged _)).trans (removed _)).trans (mode _)).trans (setLine_logged _)

/-! ## Frames received -/

theorem appendOutcome_logged (o : LineOutcome) : Logged p s (appendOutcome o s) := by
  unfold appendOutcome
  dsimp only
  split_ifs
  · exact (setLine_logged _).trans (raiseFault_free_logged (by simp))
  · exact (setLine_logged _).trans (clearRecord_logged _)
  · exact setLine_logged _

/-- RXO is cleared in the event that raises it (R87, R145). -/
theorem overrun_logged : Logged p s (overrun s) := by
  have fr : (overrun s).fr = (s.fr.raise s.now (.plain .rxo) none).clear s.now (.plain .rxo) := by
    rw [overrun, raiseFault_mild _ _ (by decide)]
    rfl
  have same : overrun s = { s with fr := (overrun s).fr } := by
    rw [overrun, raiseFault_mild _ _ (by decide)]
    rfl
  refine ⟨fun law => ?_, fun _ _ active => ?_⟩
  · rw [faultLogLaw_iff] at law ⊢
    rw [fr, same]
    exact ⟨clear_lawful _ _ (raise_lawful _ (carries_plain (by simp)) law.1), law.2⟩
  · rw [activeLaw_iff] at active ⊢
    intro key standing
    rw [fr] at standing
    obtain ⟨other, raised⟩ := isActive_of_clear standing
    rw [same]
    exact active key ((isActive_of_raise raised).resolve_left other)

theorem offer_logged (f : Frame) : Logged p s (offer f s) := by
  unfold offer
  split_ifs
  exacts [setLine_logged _, overrun_logged, .refl s]

theorem checkTwin_logged (f : Frame) : Logged p s (checkTwin f s) := by
  unfold checkTwin
  split_ifs
  exacts [duplicateAddress_logged, .refl s]

theorem closeFrame_logged : Logged p s (closeFrame s) := by
  unfold closeFrame
  split
  case h_3 => exact setLine_logged _
  all_goals exact .refl s

theorem takeFrame_logged (f : Frame) (noisy othersHold : Bool) : Logged p s (takeFrame f noisy othersHold s) :=
  (((appendOutcome_logged _).trans (checkTwin_logged f)).trans (offer_logged f)).trans
    ((setLine_logged _).trans (setLine_logged _))

theorem takeBadFrame_logged : Logged p s (takeBadFrame s) :=
  (appendOutcome_logged _).trans ((setLine_logged _).trans (setLine_logged _))

theorem takeRest_logged (f : Frame) (othersHold : Bool) : Logged p s (takeRest f othersHold s) := by
  unfold takeRest
  dsimp only
  split_ifs
  · exact (duplicateAddress_logged.trans (offer_logged f)).trans ((setLine_logged _).trans (setLine_logged _))
  · exact (setLine_logged _).trans (setLine_logged _)

theorem receiveFrame_logged (line : List Sample) (othersHold : Bool) : Logged p s (receiveFrame line othersHold s) := by
  unfold receiveFrame
  split
  exacts [.refl s, .refl s, takeBadFrame_logged, takeFrame_logged _ _ _]

theorem receiveRest_logged (line : List Sample) (othersHold : Bool) : Logged p s (receiveRest line othersHold s) := by
  unfold receiveRest
  split
  · exact .refl s
  · exact .refl s
  · exact ((setLine_logged _).trans (setLine_logged _)).trans closeFrame_logged
  · exact (takeRest_logged _ _).trans closeFrame_logged

/-! ## The Neighbour Table -/

theorem entryOf_some {address : Nat} {nt : List Entry} {e : Entry} (h : entryOf address nt = some e) :
    e ∈ nt ∧ e.address = address :=
  ⟨List.mem_of_find?_eq_some h, by simpa using List.find?_some h⟩

theorem entry_of_address {nt : List Entry} (nodup : (nt.map Entry.address).Nodup) {e e' : Entry} (he : e ∈ nt)
    (he' : e' ∈ nt) (same : e.address = e'.address) : e = e' := List.inj_on_of_nodup_map nodup he he' same

/-- A change of the table with the clear of the NBL record of an entry that was Silent and leaves that state: every other
Silent entry stays in the table. -/
theorem setTable_clearNbl_logged {e : Entry} {nt : List Entry} (nodup : (s.nt.map Entry.address).Nodup) (mem : e ∈ s.nt)
    (others : ∀ o ∈ s.nt, o.address ≠ e.address → o ∈ nt) : Logged p s (clearNbl e { s with nt := nt }) := by
  have kept {key : Key} (other : ∀ a ∈ key.neighbour, a = e.address → e.age ≠ .silent) (bears : s.bears key) :
      ({ s with nt := nt } : State).bears key := by
    obtain ⟨rxo, ovd, ovl, nbl, rest⟩ := bears
    refine ⟨rxo, ovd, ovl, fun a neighbour => ?_, rest⟩
    obtain ⟨o, old, rfl, silent⟩ := nbl a neighbour
    refine ⟨o, others o old fun same => ?_, rfl, silent⟩
    obtain rfl := entry_of_address nodup old mem same
    exact other _ neighbour rfl silent
  unfold clearNbl
  split_ifs with silent
  · refine .of_clear rfl rfl fun _ law key active other bears => ?_
    refine kept (fun a neighbour same _ => ?_) bears
    obtain ⟨x, carries⟩ := carries_of_isActive ((faultLogLaw_iff s).mp law).1 active
    exact other (same ▸ key_of_neighbour carries neighbour)
  · exact .of_log rfl rfl id fun _ _ => kept fun _ _ _ => silent

theorem mem_changeEntry_other {address : Nat} {f : Entry → Entry} {nt : List Entry} {o : Entry} (mem : o ∈ nt)
    (other : o.address ≠ address) : o ∈ changeEntry address f nt := List.mem_map.mpr ⟨o, mem, if_neg other⟩

theorem mem_removeEntry_other {address : Nat} {nt : List Entry} {o : Entry} (mem : o ∈ nt)
    (other : o.address ≠ address) : o ∈ removeEntry address nt := List.mem_filter.mpr ⟨mem, by simpa using other⟩

/-- A change of the table in which every Silent entry stays one. -/
theorem setTable_logged {nt : List Entry}
    (silent : ∀ o ∈ s.nt, o.age = .silent → ∃ o' ∈ nt, o'.address = o.address ∧ o'.age = .silent) :
    Logged p s { s with nt := nt } := by
  refine .of_log rfl rfl id fun _ key bears => ?_
  obtain ⟨rxo, ovd, ovl, nbl, rest⟩ := bears
  refine ⟨rxo, ovd, ovl, fun a neighbour => ?_, rest⟩
  obtain ⟨o, mem, rfl, age⟩ := nbl a neighbour
  exact silent o mem age

/-- The entry heard longest ago is one of the entries. -/
theorem heardLongestAgo_mem {l : List Entry} {e : Entry} (h : heardLongestAgo l = some e) : e ∈ l := by
  induction l generalizing e with
  | nil => cases h
  | cons x l ih =>
    unfold heardLongestAgo at h
    cases rest : heardLongestAgo l with
    | none =>
      rw [rest] at h
      obtain rfl := Option.some.inj h
      exact List.mem_cons_self
    | some other =>
      rw [rest] at h
      dsimp only at h
      split_ifs at h <;> obtain rfl := Option.some.inj h
      exacts [List.mem_cons_of_mem _ (ih rest), List.mem_cons_self]

theorem applyBeacon_logged (address : Nat) (b : BeaconContent) (nodup : (s.nt.map Entry.address).Nodup) :
    Logged p s (applyBeacon address b s) := by
  unfold applyBeacon
  split
  · rename_i e found
    obtain ⟨mem, rfl⟩ := entryOf_some found
    exact setTable_clearNbl_logged nodup mem fun o => mem_changeEntry_other
  · split_ifs
    · exact setTable_logged fun o mem age => ⟨o, List.mem_append_left _ mem, rfl, age⟩
    · split
      · exact .refl s
      · rename_i old longest
        have mem := (List.mem_filter.mp (heardLongestAgo_mem longest)).1
        exact setTable_clearNbl_logged nodup mem fun o mem other =>
          List.mem_append_left _ (mem_removeEntry_other mem other)

/-! ## Commands -/

/-- A slot back to Clear, its guard changed, with both its records cleared (R57). -/
theorem clearSlotTrip_logged (k : Slot) : Logged p s (clearSlotTrip s k) := by
  unfold clearSlotTrip
  split_ifs
  · exact .refl s
  · refine ⟨fun law => ?_, fun _ law active => ?_⟩
    · rw [faultLogLaw_iff] at law ⊢
      exact ⟨clear_lawful _ _ (clear_lawful _ _ law.1), law.2⟩
    · rw [activeLaw_iff] at active ⊢
      intro key standing
      obtain ⟨notOvl, standing⟩ := isActive_of_clear standing
      obtain ⟨notOvd, standing⟩ := isActive_of_clear standing
      obtain ⟨x, carries⟩ := carries_of_isActive ((faultLogLaw_iff s).mp law).1 standing
      obtain ⟨rxo, ovd, ovl, rest⟩ := active key standing
      have other (j : Slot) (slot : key.slot = some j) (kind : key.kind = .ovd ∨ key.kind = .ovl) : j ≠ k := by
        rintro rfl
        have same := key_of_slot carries slot
        rcases kind with kind | kind <;> rw [kind] at same
        exacts [notOvd same, notOvl same]
      refine ⟨rxo, fun kind j slot => ?_, fun kind j slot => ?_, rest⟩
      · have trip := ovd kind j slot
        simpa [Six.get_modify, other j slot (.inl kind)] using trip
      · have trip := ovl kind j slot
        simpa [Six.get_modify, other j slot (.inr kind)] using trip

theorem clearSlotTrips_logged (l : List Slot) : Logged p s (l.foldl clearSlotTrip s) := by
  induction l generalizing s with
  | nil => exact .refl s
  | cons k l ih => exact (clearSlotTrip_logged k).trans ih

theorem clearAntenna_logged : Logged p s (clearAntenna s) := by
  unfold clearAntenna
  split_ifs
  · refine .of_clear rfl rfl fun _ law key active other bears => ?_
    obtain ⟨x, carries⟩ := carries_of_isActive ((faultLogLaw_iff s).mp law).1 active
    obtain ⟨rxo, ovd, ovl, nbl, -, rest⟩ := bears
    refine ⟨rxo, ovd, ovl, nbl, fun kind => absurd ?_ other, rest⟩
    have plain := key_of_kind carries (by simp [kind]) (by simp [kind]) (by simp [kind])
    rwa [kind] at plain
  · exact .refl s

theorem clearTarget_logged (target : Nat) : Logged p s (clearTarget target s) := by
  unfold clearTarget
  split
  · exact (clearSlotTrips_logged _).trans clearAntenna_logged
  · split
    · exact clearSlotTrip_logged _
    · split_ifs
      exacts [clearAntenna_logged, .refl s]

end

end Sys2Proof.Machine
end

section
/-! SUPPORT. The commands of the table keep the law of the Fault Log and what Active records say (R141 to R144), and at most
31 records are Active at once (R144). -/

namespace Sys2Proof.Machine

section
variable {p : Prop} {s t u : State}

/-! ## Commands handed over -/

theorem answerAckFaults_logged (args : List Byte) : Logged p s (answerAckFaults args s).state := by
  unfold answerAckFaults
  split_ifs
  · exact .refl s
  · rw [accept_state]
    refine ⟨fun law => ?_, fun _ _ active => ?_⟩
    · rw [faultLogLaw_iff] at law ⊢
      exact ⟨acknowledge_lawful _ law.1, law.2⟩
    · rw [activeLaw_iff] at active ⊢
      exact fun key standing => active key (acknowledge_isActive standing)

theorem answerClearTrip_logged (args : List Byte) : Logged p s (answerClearTrip args s).state := by
  unfold answerClearTrip
  split_ifs
  · exact .refl s
  · rw [accept_state]
    exact (clearTarget_logged _).trans reallot_logged
  · exact .refl s

theorem answerRestore_logged : Logged p s (answerRestore s).state := by
  unfold answerRestore
  split_ifs with withdrawn
  · exact .refl s
  · have entered : Logged p s { s with nc := { s.nc with state := some .joining, joinTimer := s.nc.joinTimer } } :=
      setState_logged (fun _ => by simp [State.configured, withdrawn]) (by decide)
    dsimp only
    rw [accept_state]
    exact enterJoining_logged entered
  · exact .refl s

theorem answerRestart_logged : Logged p s (answerRestart s).state := by
  unfold answerRestart
  split_ifs with _ none
  exacts [setControl_logged_same rfl (by simp [none]), .refl s, .refl s]

theorem answerDump_logged (f : Frame) : Logged p s (answerDump f s).state := by
  unfold answerDump
  dsimp only
  split_ifs <;> exact .refl s

theorem answerOf_logged (f : Frame) : Logged p s (answerOf f s).state := by
  unfold answerOf
  split_ifs
  exacts [.refl s, answerAckFaults_logged _, answerClearTrip_logged _, answerRestore_logged, answerRestart_logged,
    answerDump_logged f, .refl s]

theorem offerReply_logged (f : Frame) (a : Answer) : Logged p a.state (offerReply f a) := by
  unfold offerReply
  dsimp only
  split_ifs
  exacts [restartReplyGone_logged, .refl _, .of_blocks rfl rfl rfl rfl rfl rfl]

theorem takeCommand_logged {f : Frame} {answer : State → Answer} (h : Logged p s (answer s).state) :
    Logged p s (takeCommand f answer s) := by
  unfold takeCommand
  split_ifs
  exacts [.refl s, offerReply_logged f (reject .notAllowed s), h.trans (offerReply_logged f _)]

/-- A handover takes the head of the Receive Queue and answers it. -/
theorem handOverCode_logged {code : Nat} {answer : Frame → State → Answer}
    (h : ∀ f u, Logged p u (answer f u).state) : Logged p s (handOverCode code answer s) := by
  unfold handOverCode
  split
  · exact .refl s
  · split_ifs
    exacts [(setLine_logged _).trans (takeCommand_logged (h _ _)), .refl s]

/-! ## The end of an image read -/

/-- An image is read before the first state or during a soft restart (R157). -/
def State.idle (s : State) : Prop := s.nc.state = none ∨ s.nc.restart = .inProgress

theorem idle_grounded (h : s.idle) : s.onAir = false ∨ s.nc.restart = .inProgress := by
  rcases h with none | restarting
  · exact .inl (by simp [State.onAir, none])
  · exact .inr restarting

/-- Then no Active record says anything of the node state, so that may change (R43). -/
theorem bears_of_idle (h : s.idle) (trip : ∀ k, (t.ca.slots.get k).trip = (s.ca.slots.get k).trip) (nt : t.nt = s.nt)
    (latch : t.pm = s.pm) {key : Key} : s.bears key → t.bears key := by
  refine bears_mono trip nt (by rw [latch]; exact id) (fun tested => absurd ?_ tested) fun ⟨unconfigured, running⟩ => ?_
  · rcases h with none | restarting
    · exact .inl (by simp [State.configured, State.onAir, none])
    · exact .inr restarting
  · rcases h with none | restarting
    · rw [none] at unconfigured
      cases unconfigured
    · exact absurd restarting running

theorem loadImage_logged (g : Setting) : Logged p s (loadImage g s) := by
  refine .of_log rfl rfl id fun _ key bears => ?_
  have trip (k : Slot) : ((loadImage g s).ca.slots.get k).trip = (s.ca.slots.get k).trip := by
    simp only [loadImage, recomputeBudget, Six.get_tabulate]
    rfl
  exact bears_of_same (s := s) (t := loadImage g s) trip rfl rfl rfl rfl bears

theorem unloadImage_trip (k : Slot) (s : State) :
    ((unloadImage s).ca.slots.get k).trip = (s.ca.slots.get k).trip := by
  simp only [unloadImage, Six.get_map]
  rfl

theorem raiseThermalAgain_logged (g : Setting) : Logged p s (raiseThermalAgain g s) := by
  have read (u : State) (same : u.mi = s.mi) (limit : Int) (hot : 0 < s.mi.derate ∨ s.mi.mute = true)
      (law : FaultLogLaw u) : (u.temperatureReading limit).isSome = true := by
    have measured := ((faultLogLaw_iff u).mp law).2
    rw [same] at measured
    rw [State.temperatureReading, Option.isSome_map, same]
    exact measured hot
  have thx (u : State) (same : u.mi = s.mi) :
      Logged p u (if u.mi.mute then raiseFault (.plain .thx) (u.temperatureReading g.tCrit) u else u) := by
    split_ifs with muted
    · exact raiseFault_thermal_logged (.inr rfl) (read u same _ (.inr (same ▸ muted)))
    · exact .refl u
  unfold raiseThermalAgain
  dsimp only
  by_cases derated : 0 < s.mi.derate
  · rw [if_pos derated]
    have thm := raiseFault_thermal_logged (p := p) (.inl rfl) (read s rfl g.tDerate (.inl derated))
    exact thm.trans (thx _ (raiseFault_mi _ _ _))
  · rw [if_neg derated]
    exact thx s rfl

theorem raiseThermalAgain_nc (g : Setting) (h : s.idle) : (raiseThermalAgain g s).nc = s.nc := by
  have raised (kind : Kind) (x : Option (Int × Int)) {u : State} (same : u.nc = s.nc) :
      (raiseFault (.plain kind) x u).nc = s.nc := by
    rw [raiseFault_grounded x (idle_grounded (by rwa [State.idle, same])), same]
  unfold raiseThermalAgain
  dsimp only
  split_ifs
  exacts [raised _ _ (raised _ _ rfl), raised _ _ rfl, raised _ _ rfl, rfl]

/-- Entry to Joining from an image read: what the log says does not hang on the node state (R161). -/
theorem enterJoining_idle_logged (h : p → s.idle) {w : State} (ca : w.ca = s.ca) (pm : w.pm = s.pm) (nt : w.nt = s.nt)
    (fr : w.fr = s.fr) (mi : w.mi = s.mi) : Logged p s (enterJoining w) :=
  enterJoining_logged <|
    .of_log (congrArg Recorder.log fr) (congrArg Recorder.nextSeq fr) (congrArg Intake.measured mi).mpr fun hp _ =>
      bears_of_idle (t := { w with nc := { w.nc with state := some .joining } }) (h hp)
        (fun k => congrArg (fun ca => (ca.slots.get k).trip) ca) nt pm

theorem goodImage_logged (g : Setting) (h : p → s.idle) : Logged p s (goodImage g s) := by
  have again := raiseThermalAgain_logged (p := p) (s := loadImage g s) g
  have idle (hp : p) : (raiseThermalAgain g (loadImage g s)).idle := by
    rw [State.idle, raiseThermalAgain_nc (s := loadImage g s) g (h hp)]
    exact h hp
  unfold goodImage
  dsimp only
  refine (loadImage_logged g).trans ?_
  split_ifs
  · exact again.trans (enterJoining_idle_logged idle rfl rfl rfl rfl rfl)
  · exact enterJoining_idle_logged (s := loadImage g s) h rfl rfl rfl rfl rfl

/-- Unconfigured with CFG raised, from what its change of the node state leaves (R160). -/
theorem enterUnconfigured_logged
    (before : Logged p s
      { u with
        mi := { u.mi with sampleTimer := .stopped, derate := 0, mute := false }
        nc := { u.nc with state := some .unconfigured, joinTimer := .stopped } }) :
    Logged p s (enterUnconfigured u) := by
  have abandoned (w : State) : Logged p w (abandonRound w) := .of_blocks rfl rfl rfl rfl rfl rfl
  have timer (w : State) (period : Nat) : Logged p w (startBeaconTimer period w) := setLine_logged _
  have settled := ((before.trans (abandoned _)).trans zeroTrims_logged).trans stateChanged_logged
  unfold enterUnconfigured
  dsimp only
  generalize stateChanged _ = w at settled ⊢
  exact settled.trans (timer w _)

/-- The image put aside, the part cool (R160). -/
def State.cooled (s : State) : State :=
  { unloadImage s with mi := { (unloadImage s).mi with derate := 0, mute := false } }

theorem cooled_bears (key : Key) : s.bears key → s.cooled.bears key :=
  bears_of_same (s := s) (t := s.cooled) (unloadImage_trip · s) rfl rfl rfl rfl

theorem badImage_eq (s : State) : badImage s =
    enterUnconfigured (beginLine .kbit250 .normal (restartOver (raiseFault (.plain .cfg) none s.cooled))) := rfl

/-- CFG is raised as the node becomes Unconfigured (R160, R167). -/
theorem badImage_logged (h : p → s.idle) : Logged p s (badImage s) := by
  rw [badImage_eq]
  refine enterUnconfigured_logged ⟨fun law => ?_, fun hp _ active => ?_⟩
  · have cooled : Logged False s s.cooled := .of_log rfl rfl (fun _ => by rintro (h | h) <;> cases h) nofun
    have raised : Logged False s (raiseFault (.plain .cfg) none s.cooled) :=
      cooled.trans (raiseFault_logged (fun _ => carries_plain (by simp)) nofun)
    have logged := (faultLogLaw_iff _).mp (raised.law law)
    exact (faultLogLaw_iff _).mpr ⟨logged.1, by rintro (h | h) <;> cases h⟩
  · rw [activeLaw_iff] at active ⊢
    intro key standing
    have idle : s.cooled.idle := h hp
    have frame := raiseFault_grounded (key := .plain .cfg) none (idle_grounded idle)
    generalize raiseFault (.plain .cfg) none s.cooled = w at *
    have log : w.fr = s.cooled.fr.raise s.cooled.now (.plain .cfg) none := by rw [frame]
    have raised : w.fr.isActive key = true := standing
    rw [log] at raised
    rcases isActive_of_raise raised with rfl | before
    · simp [State.bears, Key.plain]
    · refine bears_of_idle idle (fun k => ?_) ?_ ?_ (cooled_bears key (active key before))
      · show (w.ca.slots.get k).trip = _
        rw [frame]
      · show w.nt = _
        rw [frame]
      · show w.pm = _
        rw [frame]

/-! ## Releases, commits and the soft restart -/

/-- A Tripped slot back to Clear with its OVD record cleared (R51). -/
theorem slotReleased_logged {k : Slot} (tripped : p → (s.ca.slots.get k).trip = .tripped) :
    Logged p s (slotReleased k s) := by
  refine .of_clear rfl rfl fun hp law key active other bears => ?_
  obtain ⟨x, carries⟩ := carries_of_isActive ((faultLogLaw_iff s).mp law).1 active
  obtain ⟨rxo, ovd, ovl, rest⟩ := bears
  refine ⟨rxo, fun kind j slot => ?_, fun kind j slot => ?_, rest⟩
  · have differs : j ≠ k := by
      rintro rfl
      have same := key_of_slot carries slot
      rw [kind] at same
      exact other same
    rw [slotReleased_slot, if_neg differs]
    exact ovd kind j slot
  · have differs : j ≠ k := by
      rintro rfl
      have latched := ovl kind j slot
      rw [tripped hp] at latched
      cases latched
    rw [slotReleased_slot, if_neg differs]
    exact ovl kind j slot

theorem commit_logged (r : Round) : Logged p s (commit r s) := by
  have taken : Logged p s (trimsCommitted r s) :=
    .of_log rfl rfl id fun _ _ =>
      bears_of_same (s := s) (t := trimsCommitted r s) (fun k => by rw [trimsCommitted_slot, slotCommit_eq]) rfl rfl rfl rfl
  have ended (w : State) : Logged p w (roundOver w) := .of_blocks rfl rfl rfl rfl rfl rfl
  rw [commit_eq]
  exact (taken.trans pass_logged).trans (ended _)

/-- No record is Active where a soft restart begins (R153). -/
theorem beginRestart_logged : Logged p s (beginRestart s) := by
  refine ⟨fun law => ?_, fun _ _ _ r mem active => ?_⟩
  · rw [faultLogLaw_iff] at law ⊢
    exact ⟨clearAll_lawful _ law.1, law.2⟩
  · have inactive := clearAll_inactive s.fr s.now r mem
    rw [inactive] at active
    cases active

/-! ## Full reset -/

theorem laws_of_emptyLog (log : t.fr.log = []) (seq : t.fr.nextSeq = 0) (mi : t.mi = State.reset.mi) :
    FaultLogLaw t ∧ ActiveLaw t := by
  refine ⟨?_, fun r mem => ?_⟩
  · rw [FaultLogLaw, log, seq, mi]
    exact ⟨by decide, List.nodup_nil, fun r mem => absurd mem List.not_mem_nil, by decide, by decide⟩
  · rw [log] at mem
    exact absurd mem List.not_mem_nil

/-- The start with an invalid strap address: ADR stands, and the node is Unconfigured (R158). -/
theorem invalidStrapPath_laws (straps : BitVec 6) (pending : List Instr) :
    FaultLogLaw (invalidStrapPath (State.released straps pending)) ∧
      ActiveLaw (invalidStrapPath (State.released straps pending)) := by
  have refused : FaultLogLaw (State.strapRefused straps pending) ∧ ActiveLaw (State.strapRefused straps pending) := by
    refine ⟨(faultLogLaw_iff _).mpr ⟨⟨Nat.le_of_ble_eq_true rfl, List.nodup_singleton _, fun r mem => ?_, Nat.le_of_ble_eq_true rfl⟩, ?_⟩,
      fun r mem _ => ?_⟩
    · obtain rfl := List.mem_singleton.mp mem
      exact (sound_iff _).mpr ⟨carries_plain (by simp), rfl, nofun, by decide, by decide, by decide⟩
    · rintro (h | h) <;> cases h
    · obtain rfl := List.mem_singleton.mp mem
      simp [Key.plain, State.strapRefused, State.released, State.reset]
  have alarmed : Logged True (State.strapRefused straps pending)
      (startBeaconTimer Config.unconfiguredPeriod (alarm (State.strapRefused straps pending))) :=
    alarm_logged.trans (setLine_logged _)
  rw [invalidStrapPath_eq]
  exact ⟨alarmed.law refused.1, alarmed.active trivial refused.1 refused.2⟩

theorem fullReset_laws {straps : BitVec 6} (h : exec (.fullReset straps) s = .next t) : FaultLogLaw t ∧ ActiveLaw t := by
  rw [exec_fullReset] at h
  obtain rfl := Host.Outcome.next.inj h
  split_ifs
  exacts [laws_of_emptyLog rfl rfl rfl, invalidStrapPath_laws straps _]

/-! ## What a step does to the log -/

theorem logged_of_unlessHeld (h : unlessHeld s u = .next t) (k : Logged p s u) : Logged p s t := by
  rcases unlessHeld_next s u with hn | hn <;> rw [hn] at h <;> obtain rfl := Host.Outcome.next.inj h
  exacts [.refl s, k]

theorem settingImageReadEnd_logged {bytes : List Byte} (control : p → ControlLaw s)
    (h : exec (.settingImageReadEnd bytes) s = .next t) : Logged p s t := by
  refine logged_of_unlessHeld h ?_
  cases reading : s.nc.reading with
  | none => exact .refl s
  | some began =>
    have idle (hp : p) : s.idle := by
      obtain ⟨-, -, reads, -⟩ := control hp
      exact reads (by rw [reading]; rfl)
    have closed (now : Nat) (nc : Control) (state : nc.state = s.nc.state) (restart : nc.restart = s.nc.restart) :
        Logged p s { s with now := now, nc := nc } ∧ (p → ({ s with now := now, nc := nc } : State).idle) := by
      refine ⟨(reach_logged (s := s) 0).trans ?_, fun hp => ?_⟩
      · exact .of_log rfl rfl id fun _ _ => bears_of_same (s := s) (t := { s with now := now, nc := nc })
          (fun _ => rfl) rfl rfl state restart
      · show nc.state = none ∨ nc.restart = .inProgress
        rw [state, restart]
        exact idle hp
    dsimp only
    split
    · obtain ⟨logged, idle⟩ := closed (max s.now (began + Config.imageTimeout))
        { s.nc with reading := none, checkValue := 0 } rfl rfl
      exact logged.trans (badImage_logged idle)
    · rename_i image _
      obtain ⟨logged, idle⟩ := closed s.now { s.nc with reading := none, checkValue := imageCrc image } rfl rfl
      split_ifs
      exacts [logged.trans (goodImage_logged _ idle), logged.trans (badImage_logged idle)]

theorem holdOffExpiry_logged {k : Slot} (protection : p → ProtectionLaw s)
    (h : exec (.holdOffExpiry k) s = .next t) : Logged p s t := by
  refine logged_of_unlessHeld h ?_
  split
  · exact .refl s
  · rename_i due runs
    have tripped (hp : p) : ((s.reach due).ca.slots.get k).trip = .tripped := by
      obtain ⟨slots, -⟩ := protection hp
      exact (slots k).1.mp (by rw [runs]; nofun)
    rw [release_eq]
    exact ((reach_logged due).trans (slotReleased_logged tripped)).trans reallot_logged

theorem joinTimerExpiry_logged (control : p → ControlLaw s) (h : exec .joinTimerExpiry s = .next t) :
    Logged p s t := by
  refine logged_of_unlessHeld h ?_
  split
  · exact .refl s
  · rename_i due runs
    refine (reach_logged due).trans (enterServing_logged fun hp => ?_)
    obtain ⟨join, -⟩ := control hp
    have joining := (join (by rw [runs]; nofun)).1
    simp [State.configured, State.onAir, joining]

theorem sampleTimerExpiry_logged (h : exec .sampleTimerExpiry s = .next t) : Logged p s t := by
  have stale (u : State) : Logged p u
      { u with ca := { u.ca with slots := u.ca.slots.map fun r => { r with stale := true } } } :=
    .of_log rfl rfl id fun _ _ =>
      bears_of_same (s := u)
        (t := { u with ca := { u.ca with slots := u.ca.slots.map fun r => { r with stale := true } } })
        (fun k => by simp) rfl rfl rfl rfl
  have expired (u : State) : Logged p u { u with mi := { u.mi with sampleTimer := .expired } } :=
    .of_log rfl rfl id fun _ _ => id
  refine logged_of_unlessHeld h ?_
  split
  · exact .refl s
  · exact .refl s
  · exact (((reach_logged _).trans (stale _)).trans (raiseFault_free_logged (by simp))).trans (expired _)

theorem staleDeadline_logged {a : Nat} (table : NeighbourLaw s) (h : exec (.staleDeadline a) s = .next t) :
    Logged p s t := by
  refine logged_of_unlessHeld h ?_
  split
  · exact .refl s
  · rename_i e found
    obtain ⟨mem, rfl⟩ := entryOf_some found
    split_ifs with present
    · refine (reach_logged e.staleDue).trans (setTable_logged fun o old silent => ⟨o, ?_, rfl, silent⟩)
      refine mem_changeEntry_other old fun same => ?_
      rw [entry_of_address table.2.1 old mem same, present] at silent
      cases silent
    · exact .refl s

theorem silentDeadline_logged {a : Nat} (table : NeighbourLaw s) (h : exec (.silentDeadline a) s = .next t) :
    Logged p s t := by
  refine logged_of_unlessHeld h ?_
  split
  · exact .refl s
  · rename_i e found
    obtain ⟨mem, rfl⟩ := entryOf_some found
    have changed (o : Entry) (old : o ∈ s.nt) :
        (if o.address = e.address then { o with age := .silent } else o) ∈
          changeEntry e.address (fun x => { x with age := .silent }) s.nt := List.mem_map.mpr ⟨o, old, rfl⟩
    split_ifs
    · exact .refl s
    · refine ((reach_logged e.silentDue).trans (setTable_logged fun o old silent => ⟨_, changed o old, ?_⟩)).trans
        (raiseFault_logged (fun _ => ?_) fun _ => ?_)
      · split_ifs
        exacts [⟨rfl, rfl⟩, ⟨rfl, silent⟩]
      · obtain ⟨-, -, entries⟩ := table
        obtain ⟨low, high, -⟩ := entries e mem
        exact carries_ofNeighbour low high
      · have silent := changed e mem
        rw [if_pos rfl] at silent
        refine ⟨nofun, nofun, nofun, fun a neighbour => ?_, nofun, nofun, nofun⟩
        obtain rfl := Option.some.inj neighbour
        exact ⟨_, silent, rfl, rfl⟩

theorem goneDeadline_logged {a : Nat} (table : NeighbourLaw s) (h : exec (.goneDeadline a) s = .next t) :
    Logged p s t := by
  refine logged_of_unlessHeld h ?_
  split
  · exact .refl s
  · rename_i e found
    obtain ⟨mem, rfl⟩ := entryOf_some found
    dsimp only
    split_ifs
    · refine (reach_logged e.goneDue).trans (setTable_logged fun o old silent =>
        ⟨_, List.mem_map.mpr ⟨o, old, rfl⟩, ?_⟩)
      split_ifs <;> exact ⟨rfl, silent⟩
    · exact (reach_logged e.goneDue).trans
        (setTable_clearNbl_logged (s := s.reach e.goneDue) table.2.1 mem fun o => mem_removeEntry_other)
    · exact .refl s

theorem peerFrameReceived_logged {line : Arrival} {hold : Bool} (h : exec (.peerFrameReceived line hold) s = .next t) :
    Logged p s t := by
  refine logged_of_unlessHeld h ?_
  split_ifs
  exacts [receiveRest_logged _ _, receiveFrame_logged _ _, setLine_logged _, .refl s, .refl s]

theorem transmissionStart_logged {n : Nat} (h : exec (.transmissionStart n) s = .next t) : Logged p s t := by
  have counted : Logged p s (countIdle n s) := setLine_logged _
  refine logged_of_unlessHeld h ?_
  dsimp only
  split_ifs
  · exact counted.trans (setLine_logged _)
  · split
    exacts [counted, counted.trans (setLine_logged _)]
  · exact counted
  · exact .refl s

theorem arbitrationLost_logged {position : Nat} {x : Sample} (h : exec (.arbitrationLost position x) s = .next t) :
    Logged p s t := by
  refine logged_of_unlessHeld h ?_
  split
  · exact .refl s
  · split_ifs
    exacts [(setLine_logged _).trans (setLine_logged _), .refl s]

theorem bitError_logged {position : Nat} {x : Sample} {ack hold : Bool}
    (h : exec (.bitError position x ack hold) s = .next t) : Logged p s t := by
  have ended (held : Bool) (phase : TxPhase) : Logged p s (setPhase phase (frameEnds held s)) :=
    (setLine_logged _).trans (setLine_logged _)
  refine logged_of_unlessHeld h ?_
  split
  · exact .refl s
  · dsimp only
    split_ifs
    exacts [(ended _ _).trans (recordBeacon_logged _), ended _ _, ended _ _, .refl s]

theorem transmitFrameEnd_logged {ack hold : Bool} (h : exec (.transmitFrameEnd ack hold) s = .next t) :
    Logged p s t := by
  have probed (u : State) : Logged p u (probeSucceeded u) :=
    ((setLine_logged _).trans (clearRecord_logged _)).trans (clearRecord_logged _)
  refine logged_of_unlessHeld h ?_
  split
  · exact .refl s
  · exact .refl s
  · exact .refl s
  · rename_i a _
    have removed : Logged p s (removeAttempted a.owner ack (setPhase .quiet (countClean (frameEnds hold s)))) :=
      (((setLine_logged _).trans (setLine_logged _)).trans (setLine_logged _)).trans (removeAttempted_logged _ _)
    dsimp only
    split_ifs
    exacts [((removed.trans (probed _)).trans (recordBeacon_logged _)).trans (setLine_logged _),
      (removed.trans (recordBeacon_logged _)).trans (setLine_logged _), removed]

theorem bitErrorSettle_logged {n : Nat} (h : exec (.bitErrorSettle n) s = .next t) : Logged p s t := by
  have counted : Logged p s (countIdle n s) := setLine_logged _
  refine logged_of_unlessHeld h ?_
  split
  · exact .refl s
  · exact .refl s
  · exact .refl s
  · dsimp only
    split_ifs
    exacts [counted.trans (settle_logged _ _), counted]

theorem beaconApply_logged (table : NeighbourLaw s) (h : exec .beaconApply s = .next t) : Logged p s t := by
  refine logged_of_unlessHeld h ?_
  split
  · exact .refl s
  · split_ifs
    exacts [(applyBeacon_logged _ _ table.2.1).trans (setLine_logged _), setLine_logged _, .refl s]

theorem commandHandover_logged (h : exec .commandHandover s = .next t) : Logged p s t := by
  refine logged_of_unlessHeld h ?_
  split
  · exact .refl s
  · split_ifs
    exacts [(setLine_logged _).trans (takeCommand_logged (answerOf_logged _)), setLine_logged _, .refl s]

end

end Sys2Proof.Machine
end

section
/-! SUPPORT. What a step does to the log, and how many records are Active at once (R141 to R144). -/

namespace Sys2Proof.Machine

/-! ## What a step does to the log -/

section
variable {p : Prop} {s t : State}

theorem roundTimerExpiry_logged (h : exec .roundTimerExpiry s = .next t) : Logged p s t := by
  refine logged_of_unlessHeld h ?_
  split
  exacts [.of_blocks rfl rfl rfl rfl rfl rfl, .refl s]

theorem beaconTimerExpiry_logged (h : exec .beaconTimerExpiry s = .next t) : Logged p s t := by
  refine logged_of_unlessHeld h ?_
  split
  exacts [.refl s, .of_blocks rfl rfl rfl rfl rfl rfl]

theorem coolDownExpiry_logged (h : exec .coolDownExpiry s = .next t) : Logged p s t := by
  refine logged_of_unlessHeld h ?_
  split
  exacts [.refl s, .of_blocks rfl rfl rfl rfl rfl rfl]

theorem cleanRunExpiry_logged {k : Slot} (h : exec (.cleanRunExpiry k) s = .next t) : Logged p s t := by
  refine logged_of_unlessHeld h ?_
  split
  exacts [.refl s, (reach_logged _).trans (setMonitor_logged id)]

theorem measurementFrame_logged {bits : List Bool} (h : exec (.measurementFrame bits) s = .next t) : Logged p s t := by
  refine logged_of_unlessHeld h ?_
  split
  exacts [.refl s, goodFrame_logged _]

theorem levelFrameSent_logged (h : exec .levelFrameSent s = .next t) : Logged p s t :=
  logged_of_unlessHeld h (.of_log rfl rfl id fun _ _ => id)

theorem roundCommit_logged (h : exec .roundCommit s = .next t) : Logged p s t := by
  refine logged_of_unlessHeld h ?_
  split
  exacts [.refl s, commit_logged _]

theorem breakDetected_logged (h : exec .breakDetected s = .next t) : Logged p s t := by
  refine logged_of_unlessHeld h ?_
  dsimp only
  split
  exacts [setLine_logged _, .refl s]

theorem breakEnd_logged (h : exec .breakEnd s = .next t) : Logged p s t := by
  refine logged_of_unlessHeld h ?_
  split_ifs
  exacts [setLine_logged _, .refl s]

theorem frameDrop_logged (h : exec .frameDrop s = .next t) : Logged p s t := by
  refine logged_of_unlessHeld h ?_
  split
  · exact .refl s
  · split_ifs
    exacts [.refl s, setLine_logged _]

theorem replyEnqueue_logged (h : exec .replyEnqueue s = .next t) : Logged p s t := by
  refine logged_of_unlessHeld h ?_
  split
  · exact .refl s
  · split_ifs
    exacts [.of_blocks rfl rfl rfl rfl rfl rfl, .refl s]

theorem streamFrameBuild_logged (h : exec .streamFrameBuild s = .next t) : Logged p s t := by
  refine logged_of_unlessHeld h ?_
  split
  · exact .refl s
  · split_ifs
    exacts [.of_blocks rfl rfl rfl rfl rfl rfl, .refl s]

theorem softRestartBegin_logged (h : exec .softRestartBegin s = .next t) : Logged p s t := by
  refine logged_of_unlessHeld h ?_
  split_ifs
  exacts [beginRestart_logged, .refl s]

theorem resetInputAsserted_laws (h : exec .resetInputAsserted s = .next t) : FaultLogLaw t ∧ ActiveLaw t := by
  obtain rfl := Host.Outcome.next.inj h
  exact laws_of_emptyLog rfl rfl rfl

/-- A command keeps the law of the log and what Active records say, or begins with an empty log. -/
theorem exec_logged {c : Instr} (table : NeighbourLaw s) (control : p → ControlLaw s) (protection : p → ProtectionLaw s)
    (h : exec c s = .next t) : Logged p s t ∨ FaultLogLaw t ∧ ActiveLaw t := by
  cases c with
  | fullReset straps => exact .inr (fullReset_laws h)
  | resetInputAsserted => exact .inr (resetInputAsserted_laws h)
  | settingImageReadEnd bytes => exact .inl (settingImageReadEnd_logged control h)
  | measurementFrame bits => exact .inl (measurementFrame_logged h)
  | levelFrameSent => exact .inl (levelFrameSent_logged h)
  | sampleTimerExpiry => exact .inl (sampleTimerExpiry_logged h)
  | holdOffExpiry slot => exact .inl (holdOffExpiry_logged protection h)
  | cleanRunExpiry slot => exact .inl (cleanRunExpiry_logged h)
  | roundTimerExpiry => exact .inl (roundTimerExpiry_logged h)
  | roundCommit => exact .inl (roundCommit_logged h)
  | joinTimerExpiry => exact .inl (joinTimerExpiry_logged control h)
  | staleDeadline address => exact .inl (staleDeadline_logged table h)
  | silentDeadline address => exact .inl (silentDeadline_logged table h)
  | goneDeadline address => exact .inl (goneDeadline_logged table h)
  | beaconTimerExpiry => exact .inl (beaconTimerExpiry_logged h)
  | coolDownExpiry => exact .inl (coolDownExpiry_logged h)
  | peerFrameReceived line othersHold => exact .inl (peerFrameReceived_logged h)
  | transmissionStart recessive => exact .inl (transmissionStart_logged h)
  | arbitrationLost position readBack => exact .inl (arbitrationLost_logged h)
  | bitError position readBack ack hold => exact .inl (bitError_logged h)
  | transmitFrameEnd ack hold => exact .inl (transmitFrameEnd_logged h)
  | bitErrorSettle recessive => exact .inl (bitErrorSettle_logged h)
  | breakDetected => exact .inl (breakDetected_logged h)
  | breakEnd => exact .inl (breakEnd_logged h)
  | beaconApply => exact .inl (beaconApply_logged table h)
  | commandHandover => exact .inl (commandHandover_logged h)
  | frameDrop => exact .inl (frameDrop_logged h)
  | identify => exact .inl (logged_of_unlessHeld h (handOverCode_logged fun _ u => .refl u))
  | ackFaults => exact .inl (logged_of_unlessHeld h (handOverCode_logged fun _ _ => answerAckFaults_logged _))
  | clearTrip => exact .inl (logged_of_unlessHeld h (handOverCode_logged fun _ _ => answerClearTrip_logged _))
  | restore => exact .inl (logged_of_unlessHeld h (handOverCode_logged fun _ _ => answerRestore_logged))
  | restart => exact .inl (logged_of_unlessHeld h (handOverCode_logged fun _ _ => answerRestart_logged))
  | dump => exact .inl (logged_of_unlessHeld h (handOverCode_logged fun f _ => answerDump_logged f))
  | replyEnqueue => exact .inl (replyEnqueue_logged h)
  | streamFrameBuild => exact .inl (streamFrameBuild_logged h)
  | softRestartBegin => exact .inl (softRestartBegin_logged h)

theorem step_logged (table : NeighbourLaw s) (control : p → ControlLaw s) (protection : p → ProtectionLaw s)
    (h : step s = .next t) : Logged p s t ∨ FaultLogLaw t ∧ ActiveLaw t := by
  unfold step at h
  split at h
  · obtain rfl := Host.Outcome.next.inj h
    left
    unfold State.tick
    split_ifs
    exacts [.refl s, .of_blocks rfl rfl rfl rfl rfl rfl]
  · rename_i c rest _
    have taken : Logged p s { s with pending := rest } := .of_blocks rfl rfl rfl rfl rfl rfl
    exact (exec_logged (s := { s with pending := rest }) table control protection h).imp_left taken.trans

end

/-! ## At most 31 Active records -/

/-- The Active records of a log are at most as many as the keys that they can have. -/
theorem active_le_length {fr : Recorder} {keys : List Key} (h : fr.lawful)
    (among : ∀ key, fr.isActive key = true → key ∈ keys) : (fr.log.filter Record.active).length ≤ keys.length := by
  obtain ⟨-, nodup, -⟩ := h
  have distinct : ((fr.log.filter Record.active).map Record.key).Nodup :=
    nodup.sublist (List.filter_sublist.map Record.key)
  rw [← List.length_map (f := Record.key)]
  refine (List.subperm_of_subset distinct fun key mem => ?_).length_le
  obtain ⟨r, kept, rfl⟩ := List.mem_map.mp mem
  obtain ⟨old, active⟩ := List.mem_filter.mp kept
  exact among r.key ((isActive_iff _ _).mpr ⟨r, old, rfl, active⟩)

/-- The keys that NBL can have: one for each entry of the table (R144). -/
def State.neighbourKeys (s : State) : List Key := s.nt.map fun e => .ofNeighbour e.address

/-- The keys that OVD and OVL can have: one for each slot, by its trip state (R144). -/
def State.tripKeys (s : State) : List Key :=
  Slot.all.map fun k => .ofSlot (if (s.ca.slots.get k).trip = .tripped then .ovd else .ovl) k

/-- The keys that can be Active together while CFG or ADR is: the node is Unconfigured (R144). -/
def State.refusedKeys (s : State) : List Key :=
  [.thx, .dup, .cfg, .adr, .thm, .smp, .lnq, .iso, .txf].map Key.plain ++ s.neighbourKeys

/-- The keys that can be Active together while neither CFG nor ADR is (R144). -/
def State.acceptedKeys (s : State) : List Key :=
  [.ant, .thx, .dup, .thm, .flr, .smp, .lnq, .iso, .txf].map Key.plain ++ s.tripKeys ++ s.neighbourKeys

theorem mem_neighbourKeys {s : State} {a : Nat} (h : s.bears (.ofNeighbour a)) : .ofNeighbour a ∈ s.neighbourKeys := by
  obtain ⟨-, -, -, nbl, -⟩ := h
  obtain ⟨e, mem, rfl, -⟩ := nbl a rfl
  exact List.mem_map.mpr ⟨e, mem, rfl⟩

theorem mem_tripKeys {s : State} {kind : Kind} {k : Slot} (h : s.bears (.ofSlot kind k)) (named : kind = .ovd ∨ kind = .ovl) :
    .ofSlot kind k ∈ s.tripKeys := by
  obtain ⟨-, ovd, ovl, -⟩ := h
  refine List.mem_map.mpr ⟨k, k.mem_all, ?_⟩
  rcases named with rfl | rfl
  · rw [if_pos (ovd rfl k rfl)]
  · rw [if_neg (by rw [ovl rfl k rfl]; decide)]

section
variable {s : State}

/-- The kinds of fault that stand without slot or neighbour while the node is Unconfigured. -/
theorem kind_refused {kind : Kind} (ovd : kind ≠ .ovd) (ovl : kind ≠ .ovl) (nbl : kind ≠ .nbl) (rxo : kind ≠ .rxo)
    (ant : kind ≠ .ant) (flr : kind ≠ .flr) : kind ∈ [.thx, .dup, .cfg, .adr, .thm, .smp, .lnq, .iso, .txf] := by
  cases kind <;> simp at *

/-- The kinds of fault that stand without slot or neighbour while neither CFG nor ADR does. -/
theorem kind_accepted {kind : Kind} (ovd : kind ≠ .ovd) (ovl : kind ≠ .ovl) (nbl : kind ≠ .nbl) (rxo : kind ≠ .rxo)
    (cfg : kind ≠ .cfg) (adr : kind ≠ .adr) : kind ∈ [.ant, .thx, .dup, .thm, .flr, .smp, .lnq, .iso, .txf] := by
  cases kind <;> simp at *

theorem mem_refusedKeys (protection : ProtectionLaw s) (refused : s.refused) {key : Key} {x : Option (Int × Int)}
    (carries : key.carries x) (bears : s.bears key) : key ∈ s.refusedKeys := by
  have untested : s.untested := .inl (by simp [State.configured, State.onAir, refused.1])
  obtain ⟨-, -, -, clear⟩ := protection
  obtain ⟨-, latch, clear⟩ := clear untested
  rcases carries_canonical carries with ⟨plain, ovd, ovl, nbl⟩ | ⟨k, ofSlot, slotted⟩ | ⟨a, rfl⟩
  · refine List.mem_append_left _ (List.mem_map.mpr ⟨key.kind, ?_, plain.symm⟩)
    obtain ⟨rxo, -, -, -, ant, flr, -⟩ := bears
    have notAnt : key.kind ≠ .ant := fun kind => by simp [latch] at ant; exact ant kind
    have notFlr : key.kind ≠ .flr := fun kind => flr kind untested
    exact kind_refused ovd ovl nbl rxo notAnt notFlr
  · obtain ⟨-, ovd, ovl, -⟩ := bears
    have slot : key.slot = some k := by rw [ofSlot]; rfl
    rcases slotted with kind | kind
    · have trip := ovd kind k slot
      rw [(clear k).1] at trip
      cases trip
    · have trip := ovl kind k slot
      rw [(clear k).1] at trip
      cases trip
  · exact List.mem_append_right _ (mem_neighbourKeys bears)

theorem mem_acceptedKeys {key : Key} {x : Option (Int × Int)} (carries : key.carries x) (bears : s.bears key)
    (cfg : key.kind ≠ .cfg) (adr : key.kind ≠ .adr) : key ∈ s.acceptedKeys := by
  rcases carries_canonical carries with ⟨plain, ovd, ovl, nbl⟩ | ⟨k, ofSlot, slotted⟩ | ⟨a, rfl⟩
  · refine List.mem_append_left _ (List.mem_append_left _ (List.mem_map.mpr ⟨key.kind, ?_, plain.symm⟩))
    obtain ⟨rxo, -⟩ := bears
    exact kind_accepted ovd ovl nbl rxo cfg adr
  · rw [ofSlot] at bears ⊢
    exact List.mem_append_left _ (List.mem_append_right _ (mem_tripKeys bears slotted))
  · exact List.mem_append_right _ (mem_neighbourKeys bears)

/-- R144: CFG and ADR stand in Unconfigured only, where ANT, OVD, OVL and FLR do not. -/
theorem active_le (active : ActiveLaw s) (law : FaultLogLaw s) (table : NeighbourLaw s) (protection : ProtectionLaw s) :
    (s.fr.log.filter Record.active).length ≤ 31 := by
  rw [activeLaw_iff] at active
  have lawful := ((faultLogLaw_iff s).mp law).1
  obtain ⟨short, -⟩ := table
  by_cases refused : s.refused
  · refine (active_le_length (keys := s.refusedKeys) lawful fun key standing => ?_).trans ?_
    · obtain ⟨x, carries⟩ := carries_of_isActive lawful standing
      exact mem_refusedKeys protection refused carries (active key standing)
    · simp only [State.refusedKeys, State.neighbourKeys, List.length_append, List.length_map, List.length_cons,
        List.length_nil]
      omega
  · refine (active_le_length (keys := s.acceptedKeys) lawful fun key standing => ?_).trans ?_
    · obtain ⟨x, carries⟩ := carries_of_isActive lawful standing
      obtain ⟨-, -, -, -, -, -, cfg⟩ := active key standing
      exact mem_acceptedKeys carries (active key standing) (fun kind => refused (cfg (.inl kind))) fun kind => refused (cfg (.inr kind))
    · simp only [State.acceptedKeys, State.neighbourKeys, State.tripKeys, Slot.all, List.length_append, List.length_map,
        List.length_cons, List.length_nil]
      omega

end

/-- Settles O5, by what a step does to the log, and by counting the keys that can be Active together. -/
theorem faultLogLawKept : Obligations.FaultLogLawKept := by
  refine ⟨fun s t law table h => ?_, fun s t active law table control protection h => ?_, fun s => active_le⟩
  · rcases step_logged (p := False) table False.elim False.elim h with logged | fresh
    exacts [logged.law law, fresh.1]
  · rcases step_logged (p := True) table (fun _ => control) (fun _ => protection) h with logged | fresh
    exacts [logged.active trivial law active, fresh.2]

end Sys2Proof.Machine
end

section
/-! SUPPORT. A measurement frame that is discarded, the sample timer and the clean-run timer (R27, R36, R52). -/

namespace Sys2Proof.Machine

section
variable {s : State}

/-- An event without an effect leaves the part as it is, the reset input held or not (R156). -/
theorem unlessHeld_same (s : State) : unlessHeld s s = .next s := by
  unfold unlessHeld
  split_ifs <;> rfl

/-- A frame of another length or with another CRC-8 is no good frame (R27). -/
theorem parseMeasurement_bad {bits : List Bool}
    (h : bits.length ≠ 288 ∨ crc8 ((bytesOfBits 36 bits).take 35) ≠ (bytesOfBits 36 bits).getD 35 0) :
    parseMeasurement bits = none := by
  rw [← not_and_or] at h
  exact if_neg h

theorem exec_badMeasurementFrame {bits : List Bool} (h : parseMeasurement bits = none) :
    exec (.measurementFrame bits) s = .next s := by
  rw [exec, execMeasurementFrame, h]
  exact unlessHeld_same s

/-! ## The sample timer and the clean-run timer -/

/-- What the expiry of the sample timer leaves (R36). -/
def staled (s : State) : State :=
  raiseRecord (.plain .smp) none
    { s with
      mi := { s.mi with sampleTimer := .expired }
      ca := { s.ca with slots := s.ca.slots.map fun r => { r with stale := true } } }

theorem exec_sampleTimerExpiry (acts : s.acts) {due : Nat} (running : s.mi.sampleTimer = .running due) :
    exec .sampleTimerExpiry s = .next (staled (s.reach due)) := by
  rw [exec, execSampleTimerExpiry, unlessHeld_acts acts, running]
  dsimp only
  rw [raiseFault_mild _ _ (by decide)]
  rfl

theorem exec_sampleTimerExpiry_idle (idle : ∀ due, s.mi.sampleTimer ≠ .running due) :
    exec .sampleTimerExpiry s = .next s := by
  rw [exec, execSampleTimerExpiry]
  cases timer : s.mi.sampleTimer with
  | stopped => exact unlessHeld_same s
  | expired => exact unlessHeld_same s
  | running due => exact absurd timer (idle due)

theorem staled_smp (room : s.fr.log.length < 32) : (staled s).fr.isActive (.plain .smp) = true :=
  raise_active _ _ _ _ room

/-- What the expiry of a slot's clean-run timer leaves (R52). -/
def cleared (k : Slot) (s : State) : State :=
  { s with
    pm := { s.pm with slots := s.pm.slots.modify k fun p => { p with retry := 0, cleanRun := .stopped } } }

theorem exec_cleanRunExpiry (acts : s.acts) {k : Slot} {due : Nat} (running : (s.pm.slots.get k).cleanRun = .running due) :
    exec (.cleanRunExpiry k) s = .next (cleared k (s.reach due)) := by
  rw [exec, execCleanRunExpiry, unlessHeld_acts acts, running]
  rfl

end

/-- Settles O26: no frame is read, so the event has no effect. -/
theorem badMeasurementFrameIsDiscarded : Obligations.BadMeasurementFrameIsDiscarded :=
  fun _ _ bad => exec_badMeasurementFrame (parseMeasurement_bad bad)

/-- Settles O32: each expiry's effect is written out as one state. -/
theorem sampleAndCleanRunTimersExpire : Obligations.SampleAndCleanRunTimersExpire := by
  refine ⟨fun s acts => ⟨fun due running => ?_, exec_sampleTimerExpiry_idle⟩, fun k s due acts running => ?_⟩
  · exact ⟨_, exec_sampleTimerExpiry acts running, rfl, rfl, rfl, staled_smp (s := s.reach due), rfl⟩
  · refine ⟨_, exec_cleanRunExpiry acts running, rfl, ?_, fun j other => ?_, rfl⟩
    · rw [cleared, Six.get_modify, if_pos rfl]
      rfl
    · rw [cleared, Six.get_modify, if_neg other]
      rfl

end Sys2Proof.Machine
end

section
/-! SUPPORT. What the tests of a measurement frame and the pass leave: loads, stale and full flags, the budget, and the
records of a kind of fault that neither reports (R29, R45). -/

namespace Sys2Proof.Machine

/-! ## What is spared -/

/-- A key that no trip, no antenna test and no pass reports: without a slot, and neither ANT nor FLR. -/
structure Key.Ambient (key : Key) : Prop where
  slot : key.slot = none
  short : key ≠ .plain .flr
  antenna : key ≠ .plain .ant

theorem ambient_smp : (Key.plain .smp).Ambient := ⟨rfl, by decide, by decide⟩
theorem ambient_thm : (Key.plain .thm).Ambient := ⟨rfl, by decide, by decide⟩
theorem ambient_thx : (Key.plain .thx).Ambient := ⟨rfl, by decide, by decide⟩

/-- Load, stale and full flag of every slot are as before. -/
def LoadsStand (s t : State) : Prop :=
  ∀ k, (t.ca.slots.get k).stale = (s.ca.slots.get k).stale ∧ (t.ca.slots.get k).load = (s.ca.slots.get k).load ∧
    (t.ca.slots.get k).full = (s.ca.slots.get k).full

/-- Loads, stale and full flags, the budget and the Active records of a key are as before. -/
structure Spares (key : Key) (s t : State) : Prop where
  loads : LoadsStand s t
  budget : t.ca.budget = s.ca.budget
  records : ∀ r, r.key = key → r.active = true → (r ∈ t.fr.log ↔ r ∈ s.fr.log)

section
variable {key : Key} {s t u : State}

theorem Spares.refl (s : State) : Spares key s s := ⟨fun _ => ⟨rfl, rfl, rfl⟩, rfl, fun _ _ _ => .rfl⟩

theorem Spares.trans (h : Spares key s t) (h' : Spares key t u) : Spares key s u where
  loads k := by
    obtain ⟨stale, load, full⟩ := h.loads k
    obtain ⟨stale', load', full'⟩ := h'.loads k
    exact ⟨stale'.trans stale, load'.trans load, full'.trans full⟩
  budget := h'.budget.trans h.budget
  records r same active := (h'.records r same active).trans (h.records r same active)

theorem Spares.of_table (ca : t.ca = s.ca) (records : ∀ r, r.key = key → r.active = true → (r ∈ t.fr.log ↔ r ∈ s.fr.log)) :
    Spares key s t :=
  ⟨fun k => by rw [ca]; exact ⟨rfl, rfl, rfl⟩, by rw [ca], records⟩

theorem Spares.of_same (ca : t.ca = s.ca) (fr : t.fr = s.fr) : Spares key s t :=
  .of_table ca fun r _ _ => by rw [fr]

theorem Spares.isActive (h : Spares key s t) : t.fr.isActive key = s.fr.isActive key := by
  rw [Bool.eq_iff_iff, isActive_iff, isActive_iff]
  exact exists_congr fun r => and_congr_left fun ⟨same, active⟩ => h.records r same active

theorem Spares.recorded {x : Option (Int × Int)} (h : Spares key s t) (recorded : Recorded key x s) : Recorded key x t := by
  obtain ⟨r, mem, same, active, reading⟩ := recorded
  exact ⟨r, (h.records r same active).mpr mem, same, active, reading⟩

/-! ## The pass and what a raised fault brings -/

theorem raiseRecord_spares {j : Key} (x : Option (Int × Int)) (other : key ≠ j) : Spares key s (raiseRecord j x s) :=
  .of_table rfl fun _ same active => mem_raise_other (same ▸ other) active

theorem clearRecord_spares {j : Key} (other : key ≠ j) : Spares key s (clearRecord j s) :=
  .of_table rfl fun _ same _ => mem_clear_other (same ▸ other)

theorem setMonitor_spares (pm : Protection) : Spares key s { s with pm := pm } := .of_same rfl rfl

theorem pass_spares (short : key ≠ .plain .flr) : Spares key s (pass s) where
  loads k := by
    rw [pass_slot_frame]
    exact ⟨rfl, rfl, rfl⟩
  budget := pass_budget s
  records r same active := by
    rw [pass_fr, reportShort]
    split_ifs
    exacts [mem_raise_other (same ▸ short) active, mem_clear_other (same ▸ short)]

theorem evaluateOff_spares : Spares key s (evaluateOff s) where
  loads k := by
    rw [evaluateOff_slot]
    exact ⟨rfl, rfl, rfl⟩
  budget := evaluateOff_budget s
  records r _ _ := by rw [evaluateOff_fr]

theorem reallot_spares (short : key ≠ .plain .flr) : Spares key s (pass (evaluateOff s)) :=
  evaluateOff_spares.trans (pass_spares short)

theorem leavingAir_spares : Spares key s s.leavingAir where
  loads k := by
    rw [leavingAir_slot]
    exact ⟨rfl, rfl, rfl⟩
  budget := rfl
  records _ _ _ := .rfl

theorem enterWithdrawn_spares (short : key ≠ .plain .flr) : Spares key s (enterWithdrawn s) := by
  rw [enterWithdrawn_eq, stateChanged]
  exact ((leavingAir_spares.trans (reallot_spares short)).trans (.of_same (alarm_ca _) (alarm_fr _))).trans
    (.of_same (breakRequest_ca _) (breakRequest_fr _))

theorem withdraw_spares (short : key ≠ .plain .flr) : Spares key s (withdraw s) := by
  unfold withdraw
  split_ifs
  exacts [enterWithdrawn_spares short, .refl s]

/-- What a raised fault brings besides its record. -/
theorem raiseFault_spares_raised (short : key ≠ .plain .flr) (j : Key) (x : Option (Int × Int)) :
    Spares key (raiseRecord j x s) (raiseFault j x s) := by
  have alarmIf (b : Bool) (u : State) : Spares key u (if b then alarm u else u) := by
    split_ifs
    exacts [.of_same (alarm_ca u) (alarm_fr u), .refl u]
  have withdrawIf (b : Bool) (u : State) : Spares key u (if b then withdraw u else u) := by
    split_ifs
    exacts [withdraw_spares short, .refl u]
  unfold raiseFault
  split_ifs
  · exact (((alarmIf _ _).trans (withdrawIf _ _)).trans (withdrawIf _ _)).trans
      (.of_same (breakRequest_ca _) (breakRequest_fr _))
  · exact (alarmIf _ _).trans (withdrawIf _ _)
  · exact .refl _

theorem raiseFault_spares {j : Key} (x : Option (Int × Int)) (short : key ≠ .plain .flr) (other : key ≠ j) :
    Spares key s (raiseFault j x s) :=
  (raiseRecord_spares x other).trans (raiseFault_spares_raised short j x)

/-! ## The tests of a frame -/

theorem slotTripped_spares (k : Slot) (x : TripState) : Spares key s (slotTripped k x s) where
  loads j := by
    rw [slotTripped, Six.get_modify]
    split_ifs <;> exact ⟨rfl, rfl, rfl⟩
  budget := rfl
  records _ _ _ := .rfl

theorem silenceLevel_spares (k : Slot) : Spares key s (silenceLevel k s) := by
  unfold silenceLevel
  split_ifs
  · exact .refl s
  · refine ⟨fun j => ?_, sendLevel_budget _ _ _, fun _ _ _ => .rfl⟩
    rw [sendLevel_slot]
    split_ifs <;> exact ⟨rfl, rfl, rfl⟩

theorem tripActions_spares (short : key ≠ .plain .flr) (k : Slot) : Spares key s (tripActions k s) := by
  have settled (u : State) : Spares key u (settleMonitor k u) := setMonitor_spares _
  rw [tripActions_eq]
  exact ((evaluateOff_spares.trans (silenceLevel_spares k)).trans (settled _)).trans (pass_spares short)

theorem tripSlot_spares (ambient : key.Ambient) (g : Setting) (a : State) (forward : Nat) (k : Slot) :
    Spares key s (tripSlot g a forward k s) := by
  have raised (x : TripState) (kind : Kind) : Spares key s (tripRaised g a forward k x kind s) :=
    ((slotTripped_spares k x).trans (tripActions_spares ambient.short k)).trans
      (raiseFault_spares _ ambient.short fun same => nomatch ambient.slot.symm.trans (congrArg Key.slot same))
  have started (u : State) : Spares key u (startHoldOff k (g.holdOff * 1000) u) := setMonitor_spares _
  rcases tripSlot_cases g a forward k s with tripped | latched
  · rw [tripped]
    exact (raised _ _).trans (started _)
  · rw [latched]
    exact raised _ _

theorem testSlot_spares (ambient : key.Ambient) (g : Setting) (a : State) (m : MeasFrame) (k : Slot) :
    Spares key s (testSlot g a m s k) := by
  have counted (n : Nat) : Spares key s (setFilter k n s) := setMonitor_spares _
  unfold testSlot
  dsimp only
  split_ifs
  exacts [tripSlot_spares ambient g a _ k, counted _, counted _, counted _]

theorem testSlots_spares (ambient : key.Ambient) (g : Setting) (a : State) (m : MeasFrame) (l : List Slot) :
    Spares key s (l.foldl (testSlot g a m) s) := by
  induction l generalizing s with
  | nil => exact .refl s
  | cons k l ih => exact (testSlot_spares ambient g a m k).trans ih

theorem testAntenna_spares (ambient : key.Ambient) (g : Setting) (a : State) (m : MeasFrame) :
    Spares key s (testAntenna g a m s) := by
  have counted (n : Nat) : Spares key s (setAntFilter n s) := setMonitor_spares _
  have latched : Spares key s { s with pm := { s.pm with antLatch := true, antFilter := 0 } } := setMonitor_spares _
  unfold testAntenna latchAntenna
  split_ifs
  · exact latched.trans (raiseFault_spares _ ambient.short ambient.antenna)
  · exact counted _
  · exact counted _
  · exact counted _

theorem protect_spares (ambient : key.Ambient) (m : MeasFrame) : Spares key s (protect m s) := by
  have cleared (u : State) : Spares key u (clearSettled s u) := setMonitor_spares _
  have none : Spares key s (clearFilters s) := setMonitor_spares _
  unfold protect
  dsimp only
  split
  · exact none.trans (cleared _)
  · exact ((testSlots_spares ambient _ s m _).trans (testAntenna_spares ambient _ s m)).trans (cleared _)

/-! ## The temperature -/

theorem reportDerate_spares (ambient : key.Ambient) (other : key ≠ .plain .thm) (g : Setting) (before after : Nat)
    (x : Int) : Spares key s (reportDerate g before after x s) := by
  unfold reportDerate
  split_ifs
  exacts [raiseFault_spares _ ambient.short other, clearRecord_spares other, .refl s]

theorem reportMute_spares (ambient : key.Ambient) (other : key ≠ .plain .thx) (g : Setting) (before after : Bool)
    (x : Int) : Spares key s (reportMute g before after x s) := by
  unfold reportMute
  split_ifs
  exacts [raiseFault_spares _ ambient.short other, clearRecord_spares other, .refl s]

/-- The budget recomputed for another derate step and mute. -/
def State.derated (s : State) (derate : Nat) (mute : Bool) : State :=
  recomputeBudget { s with mi := { s.mi with derate := derate, mute := mute } }

/-- A frame whose temperature changes neither derate step nor mute leaves the node (R21). -/
theorem thermal_same {g : Setting} {x : Int} (derate : nextStep g s.mi.derate x = s.mi.derate)
    (mute : nextMute g s.mi.mute x = s.mi.mute) : thermal g x s = s :=
  if_pos ⟨derate, mute⟩

/-- A frame whose temperature changes derate step or mute (R21, R38 to R41). -/
theorem thermal_changed {g : Setting} {x : Int}
    (changed : ¬ (nextStep g s.mi.derate x = s.mi.derate ∧ nextMute g s.mi.mute x = s.mi.mute)) :
    thermal g x s =
      pass (evaluateOff (reportMute g s.mi.mute (nextMute g s.mi.mute x) x
        (reportDerate g s.mi.derate (nextStep g s.mi.derate x) x
          (s.derated (nextStep g s.mi.derate x) (nextMute g s.mi.mute x))))) :=
  if_neg changed

theorem thermal_loads (g : Setting) (x : Int) : LoadsStand s (thermal g x s) := by
  by_cases changed : nextStep g s.mi.derate x = s.mi.derate ∧ nextMute g s.mi.mute x = s.mi.mute
  · rw [thermal_same changed.1 changed.2]
    exact fun _ => ⟨rfl, rfl, rfl⟩
  · rw [thermal_changed changed]
    have reported (u : State) : Spares (.plain .smp) u (reportMute g s.mi.mute (nextMute g s.mi.mute x) x
        (reportDerate g s.mi.derate (nextStep g s.mi.derate x) x u)) :=
      (reportDerate_spares ambient_smp (by decide) g _ _ x).trans (reportMute_spares ambient_smp (by decide) g _ _ x)
    exact ((reported (s.derated _ _)).trans (reallot_spares (by decide))).loads

/-- The temperature touches THM and THX alone, and what a pass does. -/
theorem thermal_isActive (ambient : key.Ambient) (thm : key ≠ .plain .thm) (thx : key ≠ .plain .thx) (g : Setting)
    (x : Int) : (thermal g x s).fr.isActive key = s.fr.isActive key := by
  by_cases changed : nextStep g s.mi.derate x = s.mi.derate ∧ nextMute g s.mi.mute x = s.mi.mute
  · rw [thermal_same changed.1 changed.2]
  · rw [thermal_changed changed, (reallot_spares ambient.short).isActive, (reportMute_spares ambient thx ..).isActive,
      (reportDerate_spares ambient thm ..).isActive]
    rfl

end

end Sys2Proof.Machine
end

section
/-! SUPPORT. What a good measurement frame brings to the load indices and the sample timer (R28 to R35). -/

namespace Sys2Proof.Machine

section
variable {s : State} {g : Setting} {m : MeasFrame}

theorem exec_measurementFrame {bits : List Bool} (acts : s.acts) (parsed : parseMeasurement bits = some m) :
    exec (.measurementFrame bits) s = .next (goodFrame (clampMeasurement m) s) := by
  rw [exec, execMeasurementFrame, unlessHeld_acts acts, parsed]

theorem goodFrame_arrival (m : MeasFrame) (s : State) :
    goodFrame m s = thermalWork m (protect m (arrival m s)) := rfl

theorem thermalWork_held (held : s.nc.setting = some g) : thermalWork m s = thermal g m.temperature s := by
  rw [thermalWork, held]

theorem protect_setting (m : MeasFrame) (s : State) : (protect m (arrival m s)).nc.setting = s.nc.setting :=
  (protect_kept m _).setting.trans (congrArg Control.setting (arrival_nc m s))

theorem goodFrame_held (held : s.nc.setting = some g) :
    goodFrame m s = thermal g m.temperature (protect m (arrival m s)) :=
  thermalWork_held ((protect_setting m s).trans held)

theorem goodFrame_unheld (none : s.nc.setting = none) : goodFrame m s = protect m (arrival m s) := by
  rw [goodFrame_arrival, thermalWork, protect_setting, none]

/-- What becomes of a report does not touch Measurement Intake. -/
theorem thermal_intake (g : Setting) (x : Int) (s : State) :
    (thermal g x s).mi = { s.mi with derate := nextStep g s.mi.derate x, mute := nextMute g s.mi.mute x } := by
  by_cases changed : nextStep g s.mi.derate x = s.mi.derate ∧ nextMute g s.mi.mute x = s.mi.mute
  · rw [thermal_same changed.1 changed.2, changed.1, changed.2]
  · rw [thermal_changed changed, pass_mi, evaluateOff_mi, reportMute_mi, reportDerate_mi]
    rfl

theorem arrival_mi (m : MeasFrame) (s : State) :
    (arrival m s).mi = (refreshSampleTimer { s with mi := { s.mi with lastFrame := some m } }).mi := loadWork_mi _ m

/-- The intake's frame and timer after a good frame are those on arrival. -/
theorem goodFrame_intake (m : MeasFrame) (s : State) :
    (goodFrame m s).mi.lastFrame = some m ∧ (goodFrame m s).mi.sampleTimer = (arrival m s).mi.sampleTimer := by
  cases held : s.nc.setting with
  | none =>
    rw [goodFrame_unheld held, protect_mi]
    exact ⟨arrival_lastFrame m s, rfl⟩
  | some g =>
    rw [goodFrame_held held, thermal_intake, protect_mi]
    exact ⟨arrival_lastFrame m s, rfl⟩

/-- A stopped sample timer stays stopped (R35). -/
theorem arrival_stopped (stopped : s.mi.sampleTimer = .stopped) : (arrival m s).mi.sampleTimer = .stopped := by
  rw [arrival_mi, refreshSampleTimer]
  dsimp only
  rw [stopped]

/-- A running or expired sample timer starts from its full length (R35). -/
theorem arrival_started (held : s.nc.setting = some g) (started : s.mi.sampleTimer ≠ .stopped) :
    (arrival m s).mi.sampleTimer = .running (s.now + g.tSample * 1000) := by
  rw [arrival_mi, refreshSampleTimer]
  dsimp only
  cases timer : s.mi.sampleTimer with
  | stopped => exact absurd timer started
  | running due => simp [startSampleTimer, held]
  | expired => simp [startSampleTimer, held]

/-! ## The load indices -/

theorem arrival_updates (held : s.nc.setting = some g) (updated : s.loadsUpdated = true) :
    arrival m s = updateLoads g m (refreshSampleTimer { s with mi := { s.mi with lastFrame := some m } }) := by
  have same (u : State) (nc : u.nc = s.nc) : loadWork m u = updateLoads g m u := by
    have now : u.loadsUpdated = true := by rwa [State.loadsUpdated, State.configured, State.onAir, State.restarting, nc]
    rw [loadWork, nc, held]
    exact if_pos now
  exact same _ (refreshSampleTimer_nc _)

theorem arrival_waits (waits : s.loadsUpdated = false) :
    arrival m s = refreshSampleTimer { s with mi := { s.mi with lastFrame := some m } } := by
  have same (u : State) (nc : u.nc = s.nc) : loadWork m u = u := by
    have now : ¬ u.loadsUpdated = true := by
      rw [State.loadsUpdated, State.configured, State.onAir, State.restarting, nc]
      exact Bool.eq_false_iff.mp waits
    unfold loadWork
    split
    exacts [rfl, if_neg now]
  exact same _ (refreshSampleTimer_nc _)

theorem updateLoads_slot (g : Setting) (m : MeasFrame) (s : State) (k : Slot) :
    (updateLoads g m s).ca.slots.get k =
      SlotRecord.withLoad g m k { s.ca.slots.get k with stale := false } := by
  rw [updateLoads, Six.get_tabulate]
  rfl

theorem arrival_slot (held : s.nc.setting = some g) (updated : s.loadsUpdated = true) (k : Slot) :
    (arrival m s).ca.slots.get k = SlotRecord.withLoad g m k { s.ca.slots.get k with stale := false } := by
  rw [arrival_updates held updated, updateLoads_slot, refreshSampleTimer_ca]

/-- The load index that a frame moves a slot's to (R32, R33). -/
def SlotRecord.loadNext (g : Setting) (m : MeasFrame) (k : Slot) (r : SlotRecord) : Nat :=
  movedLoad r.load (instantLoad (m.rise.get k) (m.occupancy.get k) r.riseFull g.weight) g.shift

theorem withLoad_flags (g : Setting) (m : MeasFrame) (k : Slot) (r : SlotRecord) :
    (r.withLoad g m k).stale = r.stale ∧
      (r.withLoad g m k).load = (if r.enabled then r.loadNext g m k else r.load) ∧
      (r.withLoad g m k).full = (if r.enabled then decide (g.lFull ≤ r.loadNext g m k) else r.full) := by
  unfold SlotRecord.withLoad
  split_ifs <;> exact ⟨rfl, rfl, rfl⟩

theorem arrival_smp (held : s.nc.setting = some g) (updated : s.loadsUpdated = true) :
    (arrival m s).fr.isActive (.plain .smp) = false := by
  rw [arrival_updates held updated]
  exact clear_inactive _ _ _

theorem goodFrame_smp (m : MeasFrame) (s : State) :
    (goodFrame m s).fr.isActive (.plain .smp) = (arrival m s).fr.isActive (.plain .smp) := by
  have work (u : State) : (thermalWork m u).fr.isActive (.plain .smp) = u.fr.isActive (.plain .smp) := by
    unfold thermalWork
    split
    exacts [rfl, thermal_isActive ambient_smp (by decide) (by decide) _ _]
  exact (work _).trans (protect_spares ambient_smp m).isActive

theorem LoadsStand.trans {s t u : State} (h : LoadsStand s t) (h' : LoadsStand t u) : LoadsStand s u := fun k =>
  ⟨(h' k).1.trans (h k).1, (h' k).2.1.trans (h k).2.1, (h' k).2.2.trans (h k).2.2⟩

/-- What follows a frame's arrival leaves loads, stale and full flags. -/
theorem goodFrame_loads (m : MeasFrame) (s : State) : LoadsStand (arrival m s) (goodFrame m s) := by
  have tests : LoadsStand (arrival m s) (protect m (arrival m s)) := (protect_spares ambient_smp m).loads
  have work (u : State) : LoadsStand u (thermalWork m u) := by
    unfold thermalWork
    split
    exacts [(Spares.refl (key := .plain .smp) u).loads, thermal_loads _ _]
  exact tests.trans (work _)

/-- A good frame moves the load of every enabled slot where load indices are updated (R32 to R34). -/
theorem goodFrame_slot (held : s.nc.setting = some g) (updated : s.loadsUpdated = true) (k : Slot) :
    let r := s.ca.slots.get k
    let t := (goodFrame m s).ca.slots.get k
    t.stale = false ∧ t.load = (if r.enabled then r.loadNext g m k else r.load) ∧
      t.full = (if r.enabled then decide (g.lFull ≤ r.loadNext g m k) else r.full) := by
  obtain ⟨stale, load, full⟩ := goodFrame_loads m s k
  rw [arrival_slot held updated] at stale load full
  obtain ⟨stale', load', full'⟩ := withLoad_flags g m k { s.ca.slots.get k with stale := false }
  exact ⟨stale.trans stale', load.trans load', full.trans full'⟩

/-! ## A node that is not tested -/

theorem slotTested_untested (untested : s.untested) (k : Slot) : s.slotTested k = false := by
  rcases untested with h | h
  · simp [State.slotTested, h]
  · simp [State.slotTested, State.restarting, h]

theorem antennaTested_untested (untested : s.untested) (m : MeasFrame) : s.antennaTested m = false := by
  rcases untested with h | h
  · simp [State.antennaTested, h]
  · simp [State.antennaTested, State.restarting, h]

theorem loadsUpdated_iff : s.loadsUpdated = true ↔ ¬ s.untested := by
  simp [State.loadsUpdated, State.untested, State.restarting]

theorem untested_grounded (untested : s.untested) : s.onAir = false ∨ s.nc.restart = .inProgress := by
  rw [State.untested, State.configured, Bool.or_eq_false_iff] at untested
  exact untested.imp_left And.left

/-- Where no test runs no slot trips and the antenna does not latch, so the node state stands (R47, R55). -/
theorem protect_nc (untested : s.untested) (m : MeasFrame) : (protect m s).nc = s.nc := by
  have slots (g : Setting) (l : List Slot) (u : State) : (l.foldl (testSlot g s m) u).nc = u.nc := by
    induction l generalizing u with
    | nil => rfl
    | cons k l ih =>
      have counted : testSlot g s m u k = setFilter k 0 u :=
        if_neg (by rw [slotTested_untested untested]; exact Bool.false_ne_true)
      rw [List.foldl_cons, ih, counted]
      rfl
  have antenna (g : Setting) (u : State) : (testAntenna g s m u).nc = u.nc := by
    have counted : testAntenna g s m u = setAntFilter 0 u :=
      if_neg (by rw [antennaTested_untested untested]; exact Bool.false_ne_true)
    rw [counted]
    rfl
  unfold protect
  dsimp only
  split
  · rfl
  · rw [clearSettled_nc, antenna, slots]

theorem raiseFault_nc_grounded {key : Key} (x : Option (Int × Int))
    (grounded : s.onAir = false ∨ s.nc.restart = .inProgress) : (raiseFault key x s).nc = s.nc := by
  rw [raiseFault_grounded x grounded]

theorem reportDerate_nc_grounded (grounded : s.onAir = false ∨ s.nc.restart = .inProgress) (before after : Nat)
    (x : Int) : (reportDerate g before after x s).nc = s.nc := by
  unfold reportDerate
  split_ifs
  exacts [raiseFault_nc_grounded _ grounded, rfl, rfl]

theorem reportMute_nc_grounded (grounded : s.onAir = false ∨ s.nc.restart = .inProgress) (before after : Bool)
    (x : Int) : (reportMute g before after x s).nc = s.nc := by
  unfold reportMute
  split_ifs
  exacts [raiseFault_nc_grounded _ grounded, rfl, rfl]

theorem thermal_nc_grounded (grounded : s.onAir = false ∨ s.nc.restart = .inProgress) (g : Setting) (x : Int) :
    (thermal g x s).nc = s.nc := by
  by_cases changed : nextStep g s.mi.derate x = s.mi.derate ∧ nextMute g s.mi.mute x = s.mi.mute
  · rw [thermal_same changed.1 changed.2]
  · rw [thermal_changed changed, pass_nc, evaluateOff_nc]
    have derated : ∀ u : State, u.nc = s.nc → (reportDerate g s.mi.derate (nextStep g s.mi.derate x) x u).nc = s.nc :=
      fun u nc => (reportDerate_nc_grounded (by rwa [State.onAir, nc]) _ _ x).trans nc
    have muted : ∀ u : State, u.nc = s.nc → (reportMute g s.mi.mute (nextMute g s.mi.mute x) x u).nc = s.nc :=
      fun u nc => (reportMute_nc_grounded (by rwa [State.onAir, nc]) _ _ x).trans nc
    exact muted _ (derated _ rfl)

theorem goodFrame_nc (untested : s.untested) (m : MeasFrame) : (goodFrame m s).nc = s.nc := by
  have arrived : (arrival m s).untested := by
    rwa [State.untested, State.configured, State.onAir, arrival_nc]
  have tests : (protect m (arrival m s)).nc = s.nc := (protect_nc arrived m).trans (arrival_nc m s)
  have work (u : State) (nc : u.nc = s.nc) : (thermalWork m u).nc = s.nc := by
    unfold thermalWork
    split
    · exact nc
    · exact (thermal_nc_grounded (by rw [State.onAir, nc]; exact untested_grounded untested) _ _).trans nc
  exact work _ tests

end

/-- Settles O27: the loads are moved on arrival, and the tests and the temperature leave them. -/
theorem goodFrameMovesLoads : Obligations.GoodFrameMovesLoads := by
  refine ⟨fun bits s m g acts parsed held configured running => ?_, fun bits s m acts parsed untested => ?_⟩
  · have updated : s.loadsUpdated = true := by simp [State.loadsUpdated, State.restarting, configured, running]
    obtain ⟨frame, timer⟩ := goodFrame_intake (clampMeasurement m) s
    refine ⟨_, exec_measurementFrame acts parsed, frame, timer.trans ?_,
      (goodFrame_smp _ s).trans (arrival_smp held updated), fun k => ?_, goodFrame_now _ _, goodFrame_nt _ _, goodFrame_cu _ _,
      goodFrame_rxQueue _ _, goodFrame_mode _ _, (goodFrame_kept _ s).setting⟩
    · split_ifs with stopped
      exacts [arrival_stopped stopped, arrival_started held stopped]
    · have occupancy : (clampMeasurement m).occupancy.get k = min 1000 (m.occupancy.get k) := Six.get_map ..
      have slot := goodFrame_slot (m := clampMeasurement m) held updated k
      simp only [SlotRecord.loadNext, instantLoad, occupancy] at slot
      exact slot
  · have waits : s.loadsUpdated = false := Bool.eq_false_iff.mpr fun h => loadsUpdated_iff.mp h untested
    obtain ⟨frame, timer⟩ := goodFrame_intake (clampMeasurement m) s
    refine ⟨_, exec_measurementFrame acts parsed, frame, fun stopped => timer.trans (arrival_stopped stopped),
      fun g held started => timer.trans (arrival_started held started), (goodFrame_smp _ s).trans ?_, fun k => ?_,
      fun none => ?_, goodFrame_now _ _, goodFrame_nt _ _, goodFrame_cu _ _, goodFrame_nc untested _⟩
    · rw [arrival_waits waits, refreshSampleTimer_fr]
    · have loads := goodFrame_loads (clampMeasurement m) s k
      rwa [arrival_waits waits, refreshSampleTimer_ca] at loads
    · rw [goodFrame_unheld none, protect_mi, (arrival_alike _ s).derate, (arrival_alike _ s).mute]
      exact ⟨rfl, rfl⟩

end Sys2Proof.Machine
end

section
/-! SUPPORT. What a good measurement frame brings to the derate step, the thermal mute and the budget (R28, R38 to R41). -/

namespace Sys2Proof.Machine

/-! ## The report of a fault that the temperature brings -/

/-- A key's fault is reported with a reading: it is Active, and where it was not Active before, with that reading. -/
def Reported (key : Key) (x : Option (Int × Int)) (s t : State) : Prop :=
  t.fr.isActive key = true ∧ (s.fr.isActive key = false → Recorded key x t)

section
variable {key : Key} {x : Option (Int × Int)} {s t u : State} {g : Setting}

theorem Reported.spared (h : Reported key x s t) (spares : Spares key t u) : Reported key x s u := by
  obtain ⟨active, recorded⟩ := h
  exact ⟨spares.isActive.trans active, fun inactive => spares.recorded (recorded inactive)⟩

theorem Reported.of_isActive (h : Reported key x t u) (same : t.fr.isActive key = s.fr.isActive key) :
    Reported key x s u := by
  rwa [Reported, same] at h

/-- A raise into a log with a free place reports its fault (R143). -/
theorem raiseFault_reported (short : key ≠ .plain .flr) (room : s.fr.log.length < 32) :
    Reported key x s (raiseFault key x s) :=
  Reported.spared ⟨raise_active _ _ _ _ room, raiseRecord_recorded x room⟩ (raiseFault_spares_raised short key x)

/-! ## THM and THX -/

theorem reportDerate_raised {before after : Nat} (y : Int) (low : before = 0) (high : 0 < after) :
    reportDerate g before after y s = raiseFault (.plain .thm) (some (y, g.tDerate)) s := if_pos ⟨low, high⟩

theorem reportDerate_cleared {before after : Nat} (y : Int) (high : 0 < before) (low : after = 0) :
    reportDerate g before after y s = clearRecord (.plain .thm) s := by
  rw [reportDerate, if_neg fun ⟨zero, _⟩ => high.ne' zero]
  exact if_pos ⟨high, low⟩

theorem reportMute_raised (y : Int) :
    reportMute g false true y s = raiseFault (.plain .thx) (some (y, g.tCrit)) s := rfl

theorem reportMute_cleared (y : Int) : reportMute g true false y s = clearRecord (.plain .thx) s := rfl

/-- The report of the derate step takes one place at most. -/
theorem reportDerate_places (before after : Nat) (y : Int) (s : State) :
    (reportDerate g before after y s).fr.places ≤ s.fr.places + 1 := by
  unfold reportDerate
  split_ifs
  exacts [raiseFault_places _ _ s, (clear_places _ _ _).trans (Nat.le_succ _), Nat.le_succ _]

end

/-! ## The temperature -/

section
variable {s : State} {g : Setting} {y : Int}

/-- The budget and its division follow derate step and mute (R10, R21). -/
theorem thermal_divides (held : s.nc.setting = some g)
    (changed : ¬ (nextStep g s.mi.derate y = s.mi.derate ∧ nextMute g s.mi.mute y = s.mi.mute)) :
    (thermal g y s).ca.budget = g.bCfg * (16 - nextStep g s.mi.derate y) / 16 ∧ (thermal g y s).allotted ∧
      (thermal g y s).offFlagsStand := by
  have budget (u : State) : (reportMute g s.mi.mute (nextMute g s.mi.mute y) y
      (reportDerate g s.mi.derate (nextStep g s.mi.derate y) y u)).ca.budget = u.ca.budget :=
    (reportMute_spares ambient_smp (by decide) ..).budget.trans (reportDerate_spares ambient_smp (by decide) ..).budget
  have derated (d : Nat) (b : Bool) : (s.derated d b).ca.budget = g.bCfg * (16 - d) / 16 := by
    rw [State.derated, recomputeBudget_budget, State.bCfg, held]
    rfl
  rw [thermal_changed changed]
  exact ⟨by rw [reallot_budget, budget, derated], pass_allotted _, reallot_stands _⟩

/-- A derate step that rises from 0 reports THM with the temperature and T_derate (R40). -/
theorem thermal_thm_reported (low : s.mi.derate = 0) (high : 0 < nextStep g s.mi.derate y) (room : s.fr.places < 32) :
    Reported (.plain .thm) (some (y, g.tDerate)) s (thermal g y s) := by
  have changed : ¬ (nextStep g s.mi.derate y = s.mi.derate ∧ nextMute g s.mi.mute y = s.mi.mute) := fun h => by omega
  have raised (u : State) (fr : u.fr = s.fr) :
      Reported (.plain .thm) (some (y, g.tDerate)) s (reportDerate g s.mi.derate (nextStep g s.mi.derate y) y u) := by
    rw [reportDerate_raised y low high]
    exact (raiseFault_reported (by decide) (fr ▸ (length_le_places _).trans_lt room)).of_isActive (by rw [fr])
  rw [thermal_changed changed]
  exact (raised (s.derated _ _) rfl).spared
    ((reportMute_spares ambient_thm (by decide) ..).trans (reallot_spares (by decide)))

/-- A derate step that falls to 0 clears THM (R40). -/
theorem thermal_thm_cleared (high : 0 < s.mi.derate) (low : nextStep g s.mi.derate y = 0) :
    (thermal g y s).fr.isActive (.plain .thm) = false := by
  have changed : ¬ (nextStep g s.mi.derate y = s.mi.derate ∧ nextMute g s.mi.mute y = s.mi.mute) := fun h => by omega
  rw [thermal_changed changed, reallot_isActive _ (by decide), (reportMute_spares ambient_thm (by decide) ..).isActive,
    reportDerate_cleared y high low]
  exact clear_inactive _ _ _

/-- A mute that sets in reports THX with the temperature and T_crit (R41). -/
theorem thermal_thx_reported (off : s.mi.mute = false) (on : nextMute g s.mi.mute y = true) (room : s.fr.places < 31) :
    Reported (.plain .thx) (some (y, g.tCrit)) s (thermal g y s) := by
  have changed : ¬ (nextStep g s.mi.derate y = s.mi.derate ∧ nextMute g s.mi.mute y = s.mi.mute) := fun h => by
    rw [on, off] at h
    exact nomatch h.2
  have raised (u : State) (places : u.fr.places < 32) (active : u.fr.isActive (.plain .thx) = s.fr.isActive (.plain .thx)) :
      Reported (.plain .thx) (some (y, g.tCrit)) s (reportMute g s.mi.mute (nextMute g s.mi.mute y) y u) := by
    rw [on, off, reportMute_raised]
    exact (raiseFault_reported (by decide) ((length_le_places _).trans_lt places)).of_isActive active
  have places (u : State) (fr : u.fr = s.fr) :
      (reportDerate g s.mi.derate (nextStep g s.mi.derate y) y u).fr.places < 32 := by
    have step := reportDerate_places (g := g) s.mi.derate (nextStep g s.mi.derate y) y u
    rw [fr] at step
    omega
  rw [thermal_changed changed]
  exact (raised _ (places (s.derated _ _) rfl) (reportDerate_spares ambient_thx (by decide) ..).isActive).spared
    (reallot_spares (by decide))

/-- A mute that ends clears THX (R41). -/
theorem thermal_thx_cleared (on : s.mi.mute = true) (off : nextMute g s.mi.mute y = false) :
    (thermal g y s).fr.isActive (.plain .thx) = false := by
  have changed : ¬ (nextStep g s.mi.derate y = s.mi.derate ∧ nextMute g s.mi.mute y = s.mi.mute) := fun h => by
    rw [off, on] at h
    exact nomatch h.2
  rw [thermal_changed changed, reallot_isActive _ (by decide), off, on, reportMute_cleared]
  exact clear_inactive _ _ _

end

/-! ## The state in which the temperature is judged -/

section
variable {s : State} {m : MeasFrame} {key : Key}

theorem arrival_isActive (m : MeasFrame) (s : State) (other : key ≠ .plain .smp) :
    (arrival m s).fr.isActive key = s.fr.isActive key := by
  have loaded (u : State) : (loadWork m u).fr.isActive key = u.fr.isActive key := by
    unfold loadWork
    split
    · rfl
    · split_ifs
      exacts [clear_isActive_other other, rfl]
  rw [arrival, loaded, refreshSampleTimer_fr]

theorem protected_isActive (m : MeasFrame) (s : State) (ambient : key.Ambient) (other : key ≠ .plain .smp) :
    (protect m (arrival m s)).fr.isActive key = s.fr.isActive key :=
  (protect_spares ambient m).isActive.trans (arrival_isActive m s other)

theorem protected_budget (m : MeasFrame) (s : State) : (protect m (arrival m s)).ca.budget = s.ca.budget :=
  (protect_spares ambient_smp m).budget.trans (arrival_alike m s).budget

theorem protected_derate (m : MeasFrame) (s : State) : (protect m (arrival m s)).mi.derate = s.mi.derate := by
  rw [protect_mi, (arrival_alike m s).derate]

theorem protected_mute (m : MeasFrame) (s : State) : (protect m (arrival m s)).mi.mute = s.mi.mute := by
  rw [protect_mi, (arrival_alike m s).mute]

theorem testAntenna_places (g : Setting) (a : State) (m : MeasFrame) (s : State) :
    (testAntenna g a m s).fr.places ≤ s.fr.places + 1 := by
  unfold testAntenna latchAntenna
  split_ifs
  exacts [raiseFault_places _ _ _, Nat.le_succ _, Nat.le_succ _, Nat.le_succ _]

theorem protect_places (m : MeasFrame) (s : State) : (protect m s).fr.places ≤ s.fr.places + 7 := by
  unfold protect
  dsimp only
  split
  · exact Nat.le_add_right _ _
  · exact (testAntenna_places _ s m _).trans (Nat.add_le_add_right (testSlots_places _ s m Slot.all s) 1)

/-- The tests of a frame leave places in a log of at most 20 records. -/
theorem protected_places (m : MeasFrame) (short : s.fr.log.length ≤ 20) : (protect m (arrival m s)).fr.places < 31 := by
  have tests := protect_places m (arrival m s)
  have arrived := arrival_places m s
  have places := places_le s.fr
  omega

end

/-- Settles O28: the tests leave what the temperature is judged by, and the temperature's reports stand to the end. -/
theorem goodFrameDecidesDerating : Obligations.GoodFrameDecidesDerating := by
  intro bits s m g acts parsed held heat step d d' mute'
  have derate := protected_derate (clampMeasurement m) s
  have mute := protected_mute (clampMeasurement m) s
  have thm := protected_isActive (clampMeasurement m) s ambient_thm (by decide)
  have thx := protected_isActive (clampMeasurement m) s ambient_thx (by decide)
  have places (short : s.fr.log.length ≤ 20) := protected_places (clampMeasurement m) short
  have budget := protected_budget (clampMeasurement m) s
  have setting := (protect_setting (clampMeasurement m) s).trans held
  have result := exec_measurementFrame acts parsed
  rw [goodFrame_held held] at result
  generalize protect (clampMeasurement m) (arrival (clampMeasurement m) s) = u at *
  have after : nextStep g u.mi.derate heat = d' := by rw [derate]; rfl
  have muted : nextMute g u.mi.mute heat = mute' := by rw [mute]; rfl
  have thmReported (low : d = 0) (high : 0 < d') (short : s.fr.log.length ≤ 20) :
      Reported (.plain .thm) (some (heat, g.tDerate)) s (thermal g heat u) :=
    (thermal_thm_reported (derate.trans low) (after ▸ high) ((places short).trans (by decide))).of_isActive thm
  have thxReported (off : s.mi.mute = false) (on : mute' = true) (short : s.fr.log.length ≤ 20) :
      Reported (.plain .thx) (some (heat, g.tCrit)) s (thermal g heat u) :=
    (thermal_thx_reported (mute.trans off) (muted.trans on) (places short)).of_isActive thx
  refine ⟨_, result, ?_, ?_, fun changed => ?_, fun same sameMute => ?_, fun high low => ?_, fun low high short => ?_,
    fun on off => ?_, fun off on short => ?_, fun low high short inactive => ?_, fun off on short inactive => ?_⟩
  · exact (congrArg Intake.derate (thermal_intake g heat u)).trans after
  · exact (congrArg Intake.mute (thermal_intake g heat u)).trans muted
  · rw [← after]
    refine thermal_divides (y := heat) setting ?_
    rw [after, muted, derate, mute]
    tauto
  · refine (congrArg (fun t : State => t.ca.budget) (thermal_same ?_ ?_)).trans budget
    exacts [after.trans (same.trans derate.symm), muted.trans (sameMute.trans mute.symm)]
  · exact thermal_thm_cleared (derate ▸ high) (after.trans low)
  · exact (thmReported low high short).1
  · exact thermal_thx_cleared (mute.trans on) (muted.trans off)
  · exact (thxReported off on short).1
  · exact (thmReported low high short).2 inactive
  · exact (thxReported off on short).2 inactive

end Sys2Proof.Machine
end

section
/-! SUPPORT. The end of an image read that found the image good: entry to Joining, and the records that the completion of a
soft restart raises again (R43, R159, R161, R167). -/

namespace Sys2Proof.Machine

/-! ## The fault line -/

/-- The fault line stands as the log and the mask give it (R148). -/
def Recorder.lined (fr : Recorder) : Prop := fr.faultLine = fr.log.any (Record.asserts fr.mask)

theorem evaluate_lined (fr : Recorder) : fr.evaluate.lined := rfl

theorem asserts_iff (mask : BitVec 16) (r : Record) :
    r.asserts mask = true ↔
      r.active = true ∧ (r.key.kind.faultClass = .severe ∨
        (r.key.kind.faultClass = .warning ∧ mask.getLsbD r.key.kind.position = false)) := by
  cases h : r.key.kind.faultClass <;> simp [Record.asserts, maskedKind, h]

theorem faultLineLaw_of_lined {s : State} (h : s.fr.lined) : FaultLineLaw s := by
  rw [FaultLineLaw, h, List.any_eq_true]
  exact exists_congr fun r => and_congr_right fun _ => asserts_iff s.fr.mask r

theorem raise_lined {fr : Recorder} (h : fr.lined) (now : Nat) (key : Key) (x : Option (Int × Int)) :
    (fr.raise now key x).lined := by
  unfold Recorder.raise
  split_ifs
  exacts [h, evaluate_lined _, evaluate_lined _]

theorem clear_lined {fr : Recorder} (h : fr.lined) (now : Nat) (key : Key) : (fr.clear now key).lined := by
  unfold Recorder.clear
  split_ifs
  exacts [evaluate_lined _, h]

theorem pass_lined {s : State} (h : s.fr.lined) : (pass s).fr.lined := by
  rw [pass_fr, reportShort]
  split_ifs
  exacts [raise_lined h _ _ _, clear_lined h _ _]

theorem stateChanged_lined {s : State} (h : s.fr.lined) : (stateChanged s).fr.lined := by
  rw [stateChanged, alarm_fr]
  exact pass_lined (by rwa [evaluateOff_fr])

/-! ## A change of node state -/

/-- A log grows by one record at most with a raise (R143). -/
theorem raise_length_le (fr : Recorder) (now : Nat) (key : Key) (x : Option (Int × Int)) :
    (fr.raise now key x).log.length ≤ fr.log.length + 1 := by
  have dropped : (dropOldestCleared fr.log).length ≤ fr.log.length := (List.eraseP_sublist ..).length_le
  unfold Recorder.raise
  split_ifs
  · exact Nat.le_succ _
  · rw [evaluate_log, List.length_map]
    exact Nat.le_succ _
  · rw [evaluate_log]
    unfold Recorder.create
    dsimp only
    split_ifs <;> simp [dropped]

/-- The alarm of a change of node state puts the urgent marker in the queue while the line is quiet (R93). -/
theorem stateChanged_marker {s : State} (running : s.nc.restart ≠ .inProgress) (quiet : s.lc.phase = .quiet) :
    .marker true ∈ (stateChanged s).lc.txQueue := by
  have phase : (evaluateOff s).lc.phase = .quiet := (evaluateOff_phase s).trans quiet
  have idle : ¬ (evaluateOff s).lc.beaconUnderWay = true := by
    rw [Line.beaconUnderWay, phase]
    exact Bool.false_ne_true
  rw [stateChanged, alarm_lc (by rwa [pass_nc, evaluateOff_nc]), pass_lc, Line.alarmed, if_neg idle]
  exact urgentMarker_mem _

theorem stateChanged_spares {key : Key} {s : State} (short : key ≠ .plain .flr) : Spares key s (stateChanged s) :=
  (reallot_spares short).trans (.of_same (alarm_ca _) (alarm_fr _))

theorem zeroTrims_spares {key : Key} {s : State} : Spares key s (zeroTrims s) where
  loads k := by
    rw [zeroTrims_slot]
    exact ⟨rfl, rfl, rfl⟩
  budget := rfl
  records _ _ _ := .rfl

/-! ## Entry to Joining -/

/-- The node in its new state, before the timers of Joining start (R22, R93, R161). -/
def State.joined (s : State) : State := stateChanged (zeroTrims { s with nc := { s.nc with state := some .joining } })

section
variable {s : State} {g : Setting}

/-- The timers that the entry to Joining starts (R161). -/
def State.timed (s : State) (g : Setting) : State :=
  { s with
    mi := { s.mi with sampleTimer := s.mi.sampleTimer.orStarted (s.now + g.tSample * 1000) }
    lc := { s.lc with beaconPeriod := some g.beaconPeriod, beaconTimer := .running (s.now + g.beaconPeriod * 500) }
    nc := { s.nc with joinTimer := .running (s.now + g.joinCount * g.beaconPeriod * 500) } }

@[simp] theorem timed_ca (s : State) (g : Setting) : (s.timed g).ca = s.ca := rfl
@[simp] theorem timed_fr (s : State) (g : Setting) : (s.timed g).fr = s.fr := rfl
@[simp] theorem timed_txQueue (s : State) (g : Setting) : (s.timed g).lc.txQueue = s.lc.txQueue := rfl

theorem joined_frame (s : State) :
    s.joined.now = s.now ∧ s.joined.mi = s.mi ∧ s.joined.nc = { s.nc with state := some .joining } ∧ s.joined.nt = s.nt ∧ s.joined.su = s.su ∧ s.joined.cu = s.cu ∧
      s.joined.pending = s.pending :=
  ⟨stateChanged_now _, stateChanged_mi _, stateChanged_nc _, stateChanged_nt _, stateChanged_su _, stateChanged_cu _, stateChanged_pending _⟩

/-- Entry to Joining: the change of node state, then the timers (R161). -/
theorem enterJoining_eq (held : s.nc.setting = some g) : enterJoining s = s.joined.timed g := by
  have setting : s.joined.nc.setting = some g := by
    obtain ⟨-, -, nc, -⟩ := joined_frame s
    rw [nc]
    exact held
  unfold enterJoining
  dsimp only
  rw [show stateChanged (zeroTrims { s with nc := { s.nc with state := some .joining } }) = s.joined from rfl]
  generalize s.joined = u at *
  cases timer : u.mi.sampleTimer with
  | running due =>
    simp [startBeaconTimer, State.imagePeriod, State.timerFor, State.timed, SampleTimer.orStarted, timer, setting]
    rw [← timer]
  | stopped =>
    simp [startBeaconTimer, startSampleTimer, State.imagePeriod, State.timerFor, State.timed, SampleTimer.orStarted,
      timer, setting]
  | expired =>
    simp [startBeaconTimer, startSampleTimer, State.imagePeriod, State.timerFor, State.timed, SampleTimer.orStarted,
      timer, setting]

theorem joined_trip (s : State) (k : Slot) : (s.joined.ca.slots.get k).trip = (s.ca.slots.get k).trip := by
  rw [State.joined, stateChanged, alarm_ca, (reallot_slot _ k).1, zeroTrims_slot]

theorem joined_spares {key : Key} (short : key ≠ .plain .flr) : Spares key s s.joined := by
  have entered : Spares key s { s with nc := { s.nc with state := some .joining } } := .of_same rfl rfl
  unfold State.joined
  exact entered.trans (zeroTrims_spares.trans (stateChanged_spares short))

theorem joined_lined (h : s.fr.lined) : s.joined.fr.lined := by
  unfold State.joined
  exact stateChanged_lined (s := zeroTrims _) h

theorem joined_marker (running : s.nc.restart ≠ .inProgress) (quiet : s.lc.phase = .quiet) :
    .marker true ∈ s.joined.lc.txQueue := by
  unfold State.joined
  exact stateChanged_marker (s := zeroTrims _) running quiet

/-! ## THM and THX at the completion of a soft restart -/

/-- Only the line and the log differ. -/
def LogAndLine (s t : State) : Prop := t = { s with lc := t.lc, fr := t.fr }

theorem LogAndLine.refl (s : State) : LogAndLine s s := rfl

theorem LogAndLine.trans {t u : State} (h : LogAndLine s t) (h' : LogAndLine t u) : LogAndLine s u := by
  unfold LogAndLine at h h' ⊢
  rw [h', h]

/-- During a soft restart a fault brings its record and what it asks of the line (R149). -/
theorem raiseFault_logAndLine (key : Key) (x : Option (Int × Int)) (h : s.nc.restart = .inProgress) :
    LogAndLine s (raiseFault key x s) := by
  have grounded := raiseFault_grounded (key := key) x (.inr h)
  rw [LogAndLine, grounded]

/-- What the completion of a soft restart does for one condition still held: its fault raised (R43). -/
def raiseHeld (held : Bool) (kind : Kind) (limit : Int) (s : State) : State :=
  if held then raiseFault (.plain kind) (s.temperatureReading limit) s else s

theorem raiseThermalAgain_eq (g : Setting) (s : State) :
    raiseThermalAgain g s =
      raiseHeld s.mi.mute .thx g.tCrit (raiseHeld (decide (0 < s.mi.derate)) .thm g.tDerate s) := by
  by_cases derated : 0 < s.mi.derate <;> simp [raiseThermalAgain, raiseHeld, derated]

section
variable {held : Bool} {kind : Kind} {limit : Int}

theorem raiseHeld_logAndLine (h : s.nc.restart = .inProgress) : LogAndLine s (raiseHeld held kind limit s) := by
  unfold raiseHeld
  split_ifs
  exacts [raiseFault_logAndLine _ _ h, .refl s]

theorem raiseHeld_fr (h : s.nc.restart = .inProgress) :
    (raiseHeld held kind limit s).fr =
      if held then s.fr.raise s.now (.plain kind) (s.temperatureReading limit) else s.fr := by
  unfold raiseHeld
  split_ifs
  · rw [raiseFault_grounded _ (.inr h)]
  · rfl

theorem raiseHeld_lined (h : s.nc.restart = .inProgress) (lined : s.fr.lined) :
    (raiseHeld held kind limit s).fr.lined := by
  rw [raiseHeld_fr h]
  split_ifs
  exacts [raise_lined lined _ _ _, lined]

theorem raiseHeld_length (h : s.nc.restart = .inProgress) :
    (raiseHeld held kind limit s).fr.log.length ≤ s.fr.log.length + 1 := by
  rw [raiseHeld_fr h]
  split_ifs
  exacts [raise_length_le _ _ _ _, Nat.le_succ _]

theorem raiseHeld_phase (held : Bool) (kind : Kind) (limit : Int) (s : State) :
    (raiseHeld held kind limit s).lc.phase = s.lc.phase := by
  unfold raiseHeld
  split_ifs
  exacts [raiseFault_phase _ _ _, rfl]

theorem raiseHeld_spares {key : Key} (short : key ≠ .plain .flr) (other : key ≠ .plain kind) :
    Spares key s (raiseHeld held kind limit s) := by
  unfold raiseHeld
  split_ifs
  exacts [raiseFault_spares _ short other, .refl s]

theorem raiseHeld_reported (still : held = true) (short : kind ≠ .flr) (room : s.fr.log.length < 32) :
    Reported (.plain kind) (s.temperatureReading limit) s (raiseHeld held kind limit s) := by
  rw [raiseHeld, if_pos still]
  exact raiseFault_reported (fun same => short (congrArg Key.kind same)) room

end

end

end Sys2Proof.Machine
end

section
/-! SUPPORT. The end of an image read with a good image, as one state, and what it leaves (R43, R157, R159, R161, R167). -/

namespace Sys2Proof.Machine

/-! ## The state that is handed to the entry -/

/-- The node once a good image is loaded and a soft restart is over, THM and THX raised again (R43, R159, R167). -/
def State.handed (s : State) (g : Setting) : State :=
  if s.restarting then restartOver (raiseThermalAgain g (loadImage g s)) else loadImage g s

/-- Node Control with the image held and a soft restart over (R159, R167). -/
def Control.handed (nc : Control) (g : Setting) : Control :=
  { nc with
    setting := some g
    restart := if nc.restart = .inProgress then .none else nc.restart
    restartDue := if nc.restart = .inProgress then false else nc.restartDue }

section
variable {s : State} {g : Setting} {key : Key}

theorem handed_restarting (h : s.nc.restart = .inProgress) :
    s.handed g = restartOver (raiseThermalAgain g (loadImage g s)) :=
  if_pos (by simp [State.restarting, h])

theorem handed_running (h : s.nc.restart ≠ .inProgress) : s.handed g = loadImage g s :=
  if_neg (by simp [State.restarting, h])

theorem raiseThermalAgain_logAndLine (h : s.nc.restart = .inProgress) : LogAndLine s (raiseThermalAgain g s) := by
  have first (held : Bool) : LogAndLine s (raiseHeld held .thm g.tDerate s) := raiseHeld_logAndLine h
  rw [raiseThermalAgain_eq]
  exact (first _).trans (raiseHeld_logAndLine (by rw [first]; exact h))

theorem handed_eq (s : State) (g : Setting) :
    s.handed g = { loadImage g s with lc := (s.handed g).lc, fr := (s.handed g).fr, nc := s.nc.handed g } := by
  by_cases h : s.nc.restart = .inProgress
  · have again : LogAndLine (loadImage g s) (raiseThermalAgain g (loadImage g s)) := raiseThermalAgain_logAndLine h
    rw [handed_restarting h, Control.handed, if_pos h, if_pos h, restartOver]
    generalize raiseThermalAgain g (loadImage g s) = u at *
    rw [again]
    rfl
  · rw [handed_running h, Control.handed, if_neg h, if_neg h]
    rfl

theorem handed_nc_running (s : State) (g : Setting) : (s.nc.handed g).restart ≠ .inProgress := by
  rw [Control.handed]
  dsimp only
  split_ifs with h
  exacts [nofun, h]

theorem handed_phase (s : State) (g : Setting) : (s.handed g).lc.phase = s.lc.phase := by
  by_cases h : s.nc.restart = .inProgress
  · rw [handed_restarting h, raiseThermalAgain_eq]
    exact (raiseHeld_phase _ _ _ _).trans (raiseHeld_phase _ _ _ _)
  · rw [handed_running h]
    rfl

theorem handed_lined (s : State) (g : Setting) : (s.handed g).fr.lined := by
  have loaded : (loadImage g s).fr.lined := evaluate_lined _
  by_cases h : s.nc.restart = .inProgress
  · have first (held : Bool) : LogAndLine (loadImage g s) (raiseHeld held .thm g.tDerate (loadImage g s)) :=
      raiseHeld_logAndLine h
    rw [handed_restarting h, raiseThermalAgain_eq]
    exact raiseHeld_lined (by rw [first]; exact h) (raiseHeld_lined h loaded)
  · rwa [handed_running h]

/-! ## The records raised again -/

theorem loadImage_isActive (g : Setting) (s : State) (key : Key) :
    (loadImage g s).fr.isActive key = s.fr.isActive key := isActive_of_log rfl key

/-- At the completion of a soft restart THM is raised again for the derate step still held (R43). -/
theorem handed_thm_reported (h : s.nc.restart = .inProgress) (room : s.fr.log.length ≤ 30) (derated : 0 < s.mi.derate) :
    Reported (.plain .thm) (s.temperatureReading g.tDerate) s (s.handed g) := by
  have thm : Reported (.plain .thm) (s.temperatureReading g.tDerate) (loadImage g s)
      (raiseHeld (decide (0 < s.mi.derate)) .thm g.tDerate (loadImage g s)) :=
    raiseHeld_reported (decide_eq_true derated) (by decide) (room.trans_lt (by decide))
  have rest (u : State) : Spares (.plain .thm) u (raiseHeld s.mi.mute .thx g.tCrit u) :=
    raiseHeld_spares (by decide) (by decide)
  rw [handed_restarting h, raiseThermalAgain_eq]
  exact (thm.spared (rest _)).of_isActive (loadImage_isActive g s _)

/-- And THX for the mute still held (R43). -/
theorem handed_thx_reported (h : s.nc.restart = .inProgress) (room : s.fr.log.length ≤ 30) (muted : s.mi.mute = true) :
    Reported (.plain .thx) (s.temperatureReading g.tCrit) s (s.handed g) := by
  have frame : LogAndLine (loadImage g s) (raiseHeld (decide (0 < s.mi.derate)) .thm g.tDerate (loadImage g s)) :=
    raiseHeld_logAndLine h
  have length := raiseHeld_length (s := loadImage g s) (held := decide (0 < s.mi.derate)) (kind := .thm)
    (limit := g.tDerate) h
  have spared : Spares (.plain .thx) (loadImage g s)
      (raiseHeld (decide (0 < s.mi.derate)) .thm g.tDerate (loadImage g s)) := raiseHeld_spares (by decide) (by decide)
  have raised (u : State) (mi : u.mi = s.mi) (room : u.fr.log.length < 32) :
      Reported (.plain .thx) (s.temperatureReading g.tCrit) u (raiseHeld s.mi.mute .thx g.tCrit u) := by
    rw [State.temperatureReading, ← mi]
    exact raiseHeld_reported (mi ▸ muted) (by decide) room
  rw [handed_restarting h, raiseThermalAgain_eq]
  have thx := raised (raiseHeld (decide (0 < s.mi.derate)) .thm g.tDerate (loadImage g s)) (by rw [frame]; rfl)
    (length.trans_lt (Nat.lt_of_le_of_lt (Nat.succ_le_succ room) (by decide)))
  exact thx.of_isActive (spared.isActive.trans (loadImage_isActive g s _))

/-- Without a derate step held, or outside a soft restart, THM is left alone (R43). -/
theorem handed_thm_left (h : s.nc.restart ≠ .inProgress ∨ s.mi.derate = 0) :
    (s.handed g).fr.isActive (.plain .thm) = s.fr.isActive (.plain .thm) := by
  by_cases running : s.nc.restart = .inProgress
  · have rest (u : State) : Spares (.plain .thm) u (raiseHeld s.mi.mute .thx g.tCrit u) :=
      raiseHeld_spares (by decide) (by decide)
    have zero : decide (0 < (loadImage g s).mi.derate) = false := by
      simp [h.resolve_left (not_not_intro running)]
    rw [handed_restarting running, raiseThermalAgain_eq, zero]
    exact (rest _).isActive.trans (loadImage_isActive g s _)
  · rw [handed_running running, loadImage_isActive]

/-- Without a mute held, or outside a soft restart, THX is left alone (R43). -/
theorem handed_thx_left (h : s.nc.restart ≠ .inProgress ∨ s.mi.mute = false) :
    (s.handed g).fr.isActive (.plain .thx) = s.fr.isActive (.plain .thx) := by
  by_cases running : s.nc.restart = .inProgress
  · have first (held : Bool) : Spares (.plain .thx) (loadImage g s) (raiseHeld held .thm g.tDerate (loadImage g s)) :=
      raiseHeld_spares (by decide) (by decide)
    have off : (loadImage g s).mi.mute = false := h.resolve_left (not_not_intro running)
    rw [handed_restarting running, raiseThermalAgain_eq, off]
    exact (first _).isActive.trans (loadImage_isActive g s _)
  · rw [handed_running running, loadImage_isActive]

/-! ## The node in Joining -/

theorem handed_nc (s : State) (g : Setting) : (s.handed g).nc = s.nc.handed g := by
  rw [handed_eq]

theorem handed_frame (s : State) (g : Setting) :
    (s.handed g).now = s.now ∧ (s.handed g).mi = s.mi ∧ (s.handed g).nt = s.nt ∧ (s.handed g).su = s.su ∧
      (s.handed g).cu = s.cu ∧ (s.handed g).pending = s.pending := by
  rw [handed_eq]
  exact ⟨rfl, rfl, rfl, rfl, rfl, rfl⟩

theorem handed_trip (s : State) (g : Setting) (k : Slot) :
    ((s.handed g).ca.slots.get k).trip = (s.ca.slots.get k).trip := by
  rw [handed_eq]
  simp only [loadImage, recomputeBudget, Six.get_tabulate]
  rfl

/-- The node as the change to Joining leaves it, before the timers start. -/
def State.entered (s : State) (g : Setting) : State := (beginLine g.rate .normal (s.handed g)).joined

theorem entered_frame (s : State) (g : Setting) :
    (s.entered g).now = s.now ∧ (s.entered g).mi = s.mi ∧
      (s.entered g).nc = { s.nc.handed g with state := some .joining } ∧ (s.entered g).nt = s.nt ∧
      (s.entered g).su = s.su ∧ (s.entered g).cu = s.cu ∧ (s.entered g).pending = s.pending := by
  obtain ⟨now, mi, nt, su, cu, pending⟩ := handed_frame s g
  have nc := handed_nc s g
  unfold State.entered
  generalize s.handed g = u at *
  obtain ⟨now', mi', nc', nt', su', cu', pending'⟩ := joined_frame (beginLine g.rate .normal u)
  rw [beginLine_nc, nc] at nc'
  exact ⟨now'.trans now, mi'.trans mi, nc', nt'.trans nt, su'.trans su, cu'.trans cu, pending'.trans pending⟩

theorem entered_spares (s : State) (g : Setting) (short : key ≠ .plain .flr) :
    Spares key (s.handed g) (s.entered g) := by
  unfold State.entered
  generalize s.handed g = u
  have began : Spares key u (beginLine g.rate .normal u) := .of_same rfl rfl
  exact began.trans (joined_spares short)

theorem entered_lined (s : State) (g : Setting) : (s.entered g).fr.lined := by
  have lined := handed_lined s g
  unfold State.entered
  generalize s.handed g = u at *
  exact joined_lined (by rwa [beginLine_fr])

theorem entered_trip (s : State) (g : Setting) (k : Slot) :
    ((s.entered g).ca.slots.get k).trip = (s.ca.slots.get k).trip := by
  rw [← handed_trip s g k, State.entered, joined_trip, beginLine_ca]

theorem entered_marker (s : State) (g : Setting) (quiet : s.lc.phase = .quiet) :
    .marker true ∈ (s.entered g).lc.txQueue := by
  have phase := handed_phase s g
  have nc := handed_nc s g
  unfold State.entered
  generalize s.handed g = u at *
  refine joined_marker ?_ (phase.trans quiet)
  rw [beginLine_nc, nc]
  exact handed_nc_running s g

/-- The end of a read with a good image: the change to Joining, then its timers (R161). -/
theorem goodImage_eq (s : State) (g : Setting) : goodImage g s = (s.entered g).timed g := by
  have held : (s.handed g).nc.setting = some g := congrArg Control.setting (handed_nc s g)
  have same : goodImage g s = enterJoining (beginLine g.rate .normal (s.handed g)) := rfl
  rw [same, State.entered]
  generalize s.handed g = u at *
  exact enterJoining_eq held

theorem timed_spares (u : State) (g : Setting) : Spares key u (u.timed g) := .of_same rfl rfl

theorem goodImage_spares (s : State) (g : Setting) (short : key ≠ .plain .flr) :
    Spares key (s.handed g) (goodImage g s) := by
  rw [goodImage_eq]
  exact (entered_spares s g short).trans (timed_spares _ g)

theorem goodImage_faultLine (s : State) (g : Setting) : FaultLineLaw (goodImage g s) :=
  faultLineLaw_of_lined (by rw [goodImage_eq, timed_fr]; exact entered_lined s g)

theorem goodImage_trip (s : State) (g : Setting) (k : Slot) :
    ((goodImage g s).ca.slots.get k).trip = (s.ca.slots.get k).trip := by
  rw [goodImage_eq, timed_ca, entered_trip]

theorem goodImage_marker (s : State) (g : Setting) (quiet : s.lc.phase = .quiet) :
    .marker true ∈ (goodImage g s).lc.txQueue := by
  rw [goodImage_eq, timed_txQueue]
  exact entered_marker s g quiet

theorem goodImage_line (s : State) (g : Setting) :
    (goodImage g s).lc.inUse = true ∧ (goodImage g s).lc.mode = .normal ∧ (goodImage g s).lc.rate = g.rate ∧
      (goodImage g s).lc.idleNeed = 12 ∧ (goodImage g s).lc.idleCount = 0 := by
  unfold goodImage
  dsimp only
  exact ⟨enterJoining_inUse _, enterJoining_mode _, enterJoining_rate _, enterJoining_idleNeed _,
    enterJoining_idleCount _⟩

/-- What the timers of Joining read and what the rest of the node keeps. -/
theorem goodImage_timers (s : State) (g : Setting) :
    (goodImage g s).nc =
        { s.nc.handed g with
          state := some .joining
          joinTimer := .running (s.now + g.joinCount * g.beaconPeriod * 500) } ∧
      (goodImage g s).mi = { s.mi with sampleTimer := s.mi.sampleTimer.orStarted (s.now + g.tSample * 1000) } ∧
      (goodImage g s).lc.beaconPeriod = some g.beaconPeriod ∧
      (goodImage g s).lc.beaconTimer = .running (s.now + g.beaconPeriod * 500) := by
  obtain ⟨now, mi, nc, -⟩ := entered_frame s g
  rw [goodImage_eq]
  generalize s.entered g = u at *
  unfold State.timed
  dsimp only
  rw [now, mi, nc]
  exact ⟨rfl, rfl, rfl, rfl⟩

theorem goodImage_frame (s : State) (g : Setting) :
    (goodImage g s).now = s.now ∧ (goodImage g s).nt = s.nt ∧ (goodImage g s).su = s.su ∧
      (goodImage g s).cu = s.cu ∧ (goodImage g s).pending = s.pending := by
  obtain ⟨now, -, -, nt, su, cu, pending⟩ := entered_frame s g
  rw [goodImage_eq]
  generalize s.entered g = u at *
  exact ⟨now, nt, su, cu, pending⟩

/-- Stated of a state `t` that equals the result, since SettingLaw of the result itself unfolds to a match on it. -/
theorem goodImage_settingLaw {bytes : List Byte} {s t : State} (result : goodImage (settingOf bytes) s = t) :
    SettingLaw t := by
  have settled := goodImage_settled (settingOf bytes) s
  rw [result] at settled
  exact settled.toCarried.settingLaw (loadImage_settingLaw bytes s)

theorem goodImage_powerLaw (s : State) (g : Setting) : PowerLaw (goodImage g s) :=
  (goodImage_settled g s).power (loadImage_budgetStands g s)

/-! ## The end of the read -/

/-- The read is over and the image's check value is taken (R157). -/
def State.readOut (s : State) (bytes : List Byte) : State :=
  { s with nc := { s.nc with reading := none, checkValue := imageCrc bytes } }

theorem exec_goodImageRead {bytes : List Byte} {began : Nat} (acts : s.acts) (reading : s.nc.reading = some began)
    (length : bytes.length = 128) (good : imageGood bytes = true) :
    exec (.settingImageReadEnd bytes) s = .next (goodImage (settingOf bytes) (s.readOut bytes)) := by
  have image : delivered bytes = some bytes := by
    rw [delivered, if_pos (by exact length.ge), List.take_of_length_le (by exact length.le)]
  rw [exec, execSettingImageReadEnd, unlessHeld_acts acts, reading]
  dsimp only
  rw [image]
  dsimp only
  rw [if_pos good]
  rfl

end

/-- Settles O23: the image is loaded, a soft restart's faults are raised again, and the entry to Joining keeps both. -/
theorem goodImageEntersJoining : Obligations.GoodImageEntersJoining := by
  intro bytes s began acts reading length good
  have result := exec_goodImageRead acts reading length good
  have power := goodImage_powerLaw (s.readOut bytes) (settingOf bytes)
  have faultLine := goodImage_faultLine (s.readOut bytes) (settingOf bytes)
  have trims := goodImage_trims (settingOf bytes) (s.readOut bytes)
  have trip := goodImage_trip (s.readOut bytes) (settingOf bytes)
  have marker := goodImage_marker (s.readOut bytes) (settingOf bytes)
  have thm := goodImage_spares (key := .plain .thm) (s.readOut bytes) (settingOf bytes) (by decide)
  have thx := goodImage_spares (key := .plain .thx) (s.readOut bytes) (settingOf bytes) (by decide)
  obtain ⟨control, intake, beaconPeriod, beaconTimer⟩ := goodImage_timers (s.readOut bytes) (settingOf bytes)
  obtain ⟨inUse, mode, rate, idleNeed, idleCount⟩ := goodImage_line (s.readOut bytes) (settingOf bytes)
  obtain ⟨now, nt, su, cu, pending⟩ := goodImage_frame (s.readOut bytes) (settingOf bytes)
  generalize joins : goodImage (settingOf bytes) (s.readOut bytes) = t at *
  refine ⟨t, result, control, goodImage_settingLaw joins, power, faultLine, fun k => ⟨(trims k).1, (trims k).2, trip k⟩, intake, inUse,
    mode, rate, idleNeed, idleCount, beaconPeriod, beaconTimer, marker,
    State.ext_blocks now rfl rfl rfl rfl nt su rfl rfl cu pending,
    fun restarting room => ⟨fun derated => ?_, fun muted => ?_⟩, fun left => ?_, fun left => ?_⟩
  · exact (handed_thm_reported (s := s.readOut bytes) restarting room derated).spared thm
  · exact (handed_thx_reported (s := s.readOut bytes) restarting room muted).spared thx
  · exact thm.isActive.trans (handed_thm_left (s := s.readOut bytes) left)
  · exact thx.isActive.trans (handed_thx_left (s := s.readOut bytes) left)

end Sys2Proof.Machine
end

section
/-! SUPPORT. The filter counts and the antenna latch after a measurement frame (R44 to R49, R55, R56): the count that a test
leaves, and what the rest of the frame's work leaves of it. -/

namespace Sys2Proof.Machine

/-! ## What a raised fault brings -/

/-- A relation that alarm causes, the entry to Withdrawn and break requests satisfy holds of all that a raised fault brings
besides its record (R143, R149, R150). -/
theorem raiseFault_brings {R : State → State → Prop} (refl : ∀ u, R u u) (trans : ∀ {u v w}, R u v → R v w → R u w)
    (alarms : ∀ u, R u (alarm u)) (withdraws : ∀ u, R u (withdraw u)) (breaks : ∀ u, R u (breakRequest u)) (key : Key)
    (x : Option (Int × Int)) (s : State) : R (raiseRecord key x s) (raiseFault key x s) := by
  have alarmIf (b : Bool) (u : State) : R u (if b then alarm u else u) := by
    split_ifs
    exacts [alarms u, refl u]
  have withdrawIf (b : Bool) (u : State) : R u (if b then withdraw u else u) := by
    split_ifs
    exacts [withdraws u, refl u]
  unfold raiseFault
  split_ifs
  · exact trans (trans (trans (alarmIf _ _) (withdrawIf _ _)) (withdrawIf _ _)) (breaks _)
  · exact trans (alarmIf _ _) (withdrawIf _ _)
  · exact refl _

/-! ## The count of a slot -/

/-- A slot's test on a frame fails (R47, R48). -/
def State.slotFails (s : State) (g : Setting) (m : MeasFrame) (k : Slot) : Prop :=
  s.slotTested k = true ∧ (s.ca.slots.get k).grant * g.overLimit < m.forward.get k * 16

theorem overDriven_iff {s : State} {g : Setting} {m : MeasFrame} {k : Slot} :
    s.overDriven g m k ↔ s.slotFails g m k ∧ g.tripFilter ≤ (s.pm.slots.get k).filter + 1 := and_assoc.symm

/-- A test that does not fail puts the count to 0, one that fails short of the trip filter raises it (R48, R49). -/
theorem testSlot_quiet {a s : State} {g : Setting} {m : MeasFrame} {k : Slot} (quiet : ¬ a.overDriven g m k)
    (filter : (s.pm.slots.get k).filter = (a.pm.slots.get k).filter) :
    (a.slotFails g m k → testSlot g a m s k = setFilter k ((a.pm.slots.get k).filter + 1) s) ∧
      (¬ a.slotFails g m k → testSlot g a m s k = setFilter k 0 s) := by
  unfold testSlot
  dsimp only
  refine ⟨fun ⟨tested, power⟩ => ?_, fun passes => ?_⟩
  · rw [if_pos tested, if_pos power, filter, if_neg fun count => quiet ⟨tested, power, count⟩]
  · by_cases tested : a.slotTested k = true
    · rw [if_pos tested, if_neg fun power => passes ⟨tested, power⟩]
    · rw [if_neg tested]

theorem setFilter_guard (k : Slot) (n : Nat) (s : State) :
    (setFilter k n s).pm.slots.get k = { s.pm.slots.get k with filter := n } := by
  simp [setFilter]

/-- A trip puts the slot's count to 0 and leaves its retry count (R49). -/
theorem tripSlot_counts (g : Setting) (a : State) (forward : Nat) (k : Slot) (s : State) :
    ((tripSlot g a forward k s).pm.slots.get k).filter = 0 ∧
      ((tripSlot g a forward k s).pm.slots.get k).retry = (s.pm.slots.get k).retry := by
  have acted (x : TripState) : ((tripActions k (slotTripped k x s)).pm.slots.get k).filter = 0 ∧
      ((tripActions k (slotTripped k x s)).pm.slots.get k).retry = (s.pm.slots.get k).retry := by
    rw [tripActions_eq, pass_guard, settleMonitor_guard, silenceLevel_frame]
    dsimp only
    rw [evaluateOff_pm, slotTripped_guard]
    exact ⟨rfl, rfl⟩
  have raised (x : TripState) (kind : Kind) : ((tripRaised g a forward k x kind s).pm.slots.get k).filter = 0 ∧
      ((tripRaised g a forward k x kind s).pm.slots.get k).retry = (s.pm.slots.get k).retry := by
    have acted := acted x
    unfold tripRaised
    generalize tripActions k (slotTripped k x s) = u at *
    have brought (y : Option (Int × Int)) : Apart a k (raiseRecord (.ofSlot kind k) y u) (raiseFault (.ofSlot kind k) y u) :=
      raiseFault_apart_raised _ y
    exact ⟨(brought _).filter.trans acted.1, (brought _).retry.trans acted.2⟩
  have started (u : State) (length : Nat) : (startHoldOff k length u).pm.slots.get k =
      { u.pm.slots.get k with holdOff := u.timerFor length } := by simp [startHoldOff]
  rcases tripSlot_cases g a forward k s with tripped | latched
  · rw [tripped, started]
    exact raised _ _
  · rw [latched]
    exact raised _ _

/-! ## The slot after the frame -/

section
variable {s : State} {g : Setting} {m : MeasFrame} {k : Slot}

/-- The frame's work after a slot's test leaves the slot as the test left it. -/
theorem goodFrame_afterTest (held : s.nc.setting = some g) (k : Slot) :
    Apart (arrival m s) k (testSlot g (arrival m s) m (testedBefore g m k s) k) (goodFrame m s) := by
  have tests : Slot.all.foldl (testSlot g (arrival m s) m) (arrival m s) =
      (slotsAfter k).foldl (testSlot g (arrival m s) m) (testSlot g (arrival m s) m (testedBefore g m k s) k) := by
    rw [testedBefore, ← List.foldl_cons (f := testSlot g (arrival m s) m), ← List.foldl_append, ← all_eq_around]
  rw [goodFrame_eq m held, tests]
  exact (((testSlots_apart (not_mem_slotsAfter k) g _ m).trans (testAntenna_apart g _ m)).trans
    clearSettled_apart).trans (thermalWork_apart m)

theorem testedBefore_filter (m : MeasFrame) :
    ((testedBefore g m k s).pm.slots.get k).filter = ((arrival m s).pm.slots.get k).filter := by
  rw [testedBefore_apart.filter, arrival_pm]

theorem arrival_slotFails {m' : MeasFrame} : (arrival m s).slotFails g m' k ↔ s.slotFails g m' k := by
  have alike := arrival_alike m s
  have grant : ((arrival m s).ca.slots.get k).grant = (s.ca.slots.get k).grant := by rw [alike.slots k]
  have tested : (arrival m s).slotTested k = s.slotTested k := by
    rw [State.slotTested, State.slotTested, alike.participates, grant, arrival_pm, State.configured, State.onAir,
      State.restarting, arrival_nc]
    rfl
  rw [State.slotFails, State.slotFails, tested, grant]

/-- A slot that is not over-driven keeps trip state, retry count and hold-off timer, and its test decides its count (R48,
R49). -/
theorem goodFrame_untripped (held : s.nc.setting = some g) (quiet : ¬ s.overDriven g m k) :
    ((goodFrame m s).ca.slots.get k).trip = (s.ca.slots.get k).trip ∧
    ((goodFrame m s).pm.slots.get k).retry = (s.pm.slots.get k).retry ∧
    ((goodFrame m s).pm.slots.get k).holdOff = (s.pm.slots.get k).holdOff ∧
    (s.slotFails g m k → ((goodFrame m s).pm.slots.get k).filter = (s.pm.slots.get k).filter + 1) ∧
    (¬ s.slotFails g m k → ((goodFrame m s).pm.slots.get k).filter = 0) := by
  have before : Apart (arrival m s) k s (testedBefore g m k s) := testedBefore_apart
  have after := goodFrame_afterTest (m := m) held k
  obtain ⟨raised, reset⟩ := testSlot_quiet (mt (arrival_overDriven m).mp quiet) (testedBefore_filter (g := g) m)
  rw [arrival_slotFails, arrival_pm] at raised
  rw [arrival_slotFails] at reset
  have counted {n : Nat} (test : testSlot g (arrival m s) m (testedBefore g m k s) k = setFilter k n (testedBefore g m k s)) :
      ((goodFrame m s).ca.slots.get k).trip = (s.ca.slots.get k).trip ∧
      ((goodFrame m s).pm.slots.get k).retry = (s.pm.slots.get k).retry ∧
      ((goodFrame m s).pm.slots.get k).holdOff = (s.pm.slots.get k).holdOff ∧
      ((goodFrame m s).pm.slots.get k).filter = n := by
    have guard := setFilter_guard k n (testedBefore g m k s)
    rw [test] at after
    refine ⟨after.trip.trans before.trip, after.retry.trans ?_, after.holdOff.trans ?_, after.filter.trans ?_⟩ <;> rw [guard]
    exacts [before.retry, before.holdOff]
  by_cases fails : s.slotFails g m k
  · obtain ⟨trip, retry, holdOff, filter⟩ := counted (raised fails)
    exact ⟨trip, retry, holdOff, fun _ => filter, absurd fails⟩
  · obtain ⟨trip, retry, holdOff, filter⟩ := counted (reset fails)
    exact ⟨trip, retry, holdOff, (absurd · fails), fun _ => filter⟩

/-- The count of a slot that a frame trips starts again from 0, and its retry count stands (R49). -/
theorem goodFrame_trip_counts (held : s.nc.setting = some g) (driven : s.overDriven g m k) :
    ((goodFrame m s).pm.slots.get k).filter = 0 ∧
      ((goodFrame m s).pm.slots.get k).retry = (s.pm.slots.get k).retry := by
  have before : Apart (arrival m s) k s (testedBefore g m k s) := testedBefore_apart
  obtain ⟨filter, retry⟩ := tripSlot_counts g (arrival m s) (m.forward.get k) k (testedBefore g m k s)
  have after := goodFrame_apart held driven
  exact ⟨after.filter.trans filter, (after.retry.trans retry).trans before.retry⟩

end

/-! ## The antenna's count and latch -/

/-- The antenna's filter count and latch (R44). -/
def State.antenna (s : State) : Nat × Bool := (s.pm.antFilter, s.pm.antLatch)

section
variable {s : State}

theorem antenna_of_pm {t : State} (h : t.pm = s.pm) : t.antenna = s.antenna := by rw [State.antenna, h]; rfl

theorem pass_antenna (s : State) : (pass s).antenna = s.antenna := by
  rw [State.antenna, pass_pm]
  rfl

theorem reallot_keeps_antenna (s : State) : (pass (evaluateOff s)).antenna = s.antenna :=
  (pass_antenna _).trans (antenna_of_pm (evaluateOff_pm s))

theorem withdraw_antenna (s : State) : (withdraw s).antenna = s.antenna := by
  unfold withdraw
  split_ifs
  · rw [enterWithdrawn_eq, antenna_of_pm (breakRequest_pm _), stateChanged, antenna_of_pm (alarm_pm _), reallot_keeps_antenna]
    rfl
  · rfl

theorem raiseFault_antenna (key : Key) (x : Option (Int × Int)) (s : State) : (raiseFault key x s).antenna = s.antenna :=
  raiseFault_brings (R := fun u v => v.antenna = u.antenna) (fun _ => rfl) (fun h h' => h'.trans h)
    (fun _ => antenna_of_pm (alarm_pm _)) withdraw_antenna (fun _ => antenna_of_pm (breakRequest_pm _)) key x s

theorem tripSlot_antenna (g : Setting) (a : State) (forward : Nat) (k : Slot) (s : State) :
    (tripSlot g a forward k s).antenna = s.antenna := by
  have raised (x : TripState) (kind : Kind) : (tripRaised g a forward k x kind s).antenna = s.antenna := by
    have settled (u : State) : (settleMonitor k u).antenna = u.antenna := rfl
    have silenced (u : State) : (silenceLevel k u).antenna = u.antenna := by rw [silenceLevel_frame]; rfl
    rw [tripRaised, raiseFault_antenna, tripActions_eq, pass_antenna, settled, silenced, antenna_of_pm (evaluateOff_pm _)]
    rfl
  have started (u : State) (length : Nat) : (startHoldOff k length u).antenna = u.antenna := rfl
  rcases tripSlot_cases g a forward k s with tripped | latched
  · rw [tripped, started]
    exact raised _ _
  · rw [latched]
    exact raised _ _

/-- The tests of the slots leave the antenna's count and latch (R45). -/
theorem testSlots_antenna (g : Setting) (a : State) (m : MeasFrame) (l : List Slot) (s : State) :
    (l.foldl (testSlot g a m) s).antenna = s.antenna := by
  have tested (k : Slot) (u : State) : (testSlot g a m u k).antenna = u.antenna := by
    unfold testSlot
    dsimp only
    split_ifs
    exacts [tripSlot_antenna .., rfl, rfl, rfl]
  induction l generalizing s with
  | nil => rfl
  | cons k l ih => rw [List.foldl_cons, ih, tested]

theorem thermal_antenna (g : Setting) (x : Int) (s : State) : (thermal g x s).antenna = s.antenna := by
  have derate (before after : Nat) (u : State) : (reportDerate g before after x u).antenna = u.antenna := by
    unfold reportDerate
    split_ifs
    exacts [raiseFault_antenna .., rfl, rfl]
  have mute (before after : Bool) (u : State) : (reportMute g before after x u).antenna = u.antenna := by
    unfold reportMute
    split_ifs
    exacts [raiseFault_antenna .., rfl, rfl]
  by_cases changed : nextStep g s.mi.derate x = s.mi.derate ∧ nextMute g s.mi.mute x = s.mi.mute
  · rw [thermal_same changed.1 changed.2]
  · rw [thermal_changed changed, reallot_keeps_antenna, mute, derate]
    rfl

end

/-- The antenna's test on a frame fails (R55). -/
def State.antennaFails (s : State) (g : Setting) (m : MeasFrame) : Prop :=
  s.antennaTested m = true ∧ m.compForward * g.returnLimit < m.compReflected * 16

/-- The antenna latches on a frame (R56). -/
def State.antennaLatches (s : State) (g : Setting) (m : MeasFrame) : Prop :=
  s.antennaFails g m ∧ g.tripFilter ≤ s.pm.antFilter + 1

section
variable {a s : State} {g : Setting} {m : MeasFrame}

/-- The four outcomes of the antenna's test are latch, a count raised, and a count put to 0 (R55, R56). -/
theorem testAntenna_cases (filter : s.pm.antFilter = a.pm.antFilter) :
    (a.antennaLatches g m → testAntenna g a m s = latchAntenna g m s) ∧
    (a.antennaFails g m → a.pm.antFilter + 1 < g.tripFilter →
      testAntenna g a m s = setAntFilter (a.pm.antFilter + 1) s) ∧
    (¬ a.antennaFails g m → testAntenna g a m s = setAntFilter 0 s) := by
  unfold testAntenna
  rw [filter]
  refine ⟨fun ⟨⟨tested, power⟩, count⟩ => ?_, fun ⟨tested, power⟩ count => ?_, fun passes => ?_⟩
  · rw [if_pos tested, if_pos power, if_pos count]
  · rw [if_pos tested, if_pos power, if_neg (by omega)]
  · by_cases tested : a.antennaTested m = true
    · rw [if_pos tested, if_neg fun power => passes ⟨tested, power⟩]
    · rw [if_neg tested]

theorem latchAntenna_antenna (g : Setting) (m : MeasFrame) (s : State) : (latchAntenna g m s).antenna = (0, true) :=
  raiseFault_antenna _ _ _

/-- The state in which the antenna is tested: the slots are tested (R45). -/
def slotsTested (g : Setting) (m : MeasFrame) (s : State) : State :=
  Slot.all.foldl (testSlot g (arrival m s) m) (arrival m s)

theorem slotsTested_antenna (g : Setting) (m : MeasFrame) (s : State) : (slotsTested g m s).antenna = s.antenna :=
  (testSlots_antenna ..).trans (antenna_of_pm (arrival_pm m s))

theorem arrival_antennaFails {m' : MeasFrame} : (arrival m s).antennaFails g m' ↔ s.antennaFails g m' := by
  rw [State.antennaFails, State.antennaTested, State.configured, State.onAir, State.restarting, arrival_nc, arrival_pm]
  rfl

theorem arrival_antennaLatches {m' : MeasFrame} : (arrival m s).antennaLatches g m' ↔ s.antennaLatches g m' := by
  rw [State.antennaLatches, arrival_antennaFails, arrival_pm]
  rfl

theorem goodFrame_tested (held : s.nc.setting = some g) :
    goodFrame m s =
      thermal g m.temperature (clearSettled (arrival m s) (testAntenna g (arrival m s) m (slotsTested g m s))) := by
  have setting := (arrival_alike m s).setting.trans held
  have tests : protect m (arrival m s) =
      clearSettled (arrival m s) (testAntenna g (arrival m s) m (slotsTested g m s)) := by
    rw [protect, setting]
    rfl
  rw [goodFrame_held held, tests]

/-- The antenna after a frame: its test decides count and latch, and the rest of the work leaves them (R55, R56). -/
theorem goodFrame_antenna (held : s.nc.setting = some g) :
    (s.antennaLatches g m → (goodFrame m s).antenna = (0, true)) ∧
    (s.antennaFails g m → s.pm.antFilter + 1 < g.tripFilter →
      (goodFrame m s).antenna = (s.pm.antFilter + 1, s.pm.antLatch)) ∧
    (¬ s.antennaFails g m → (goodFrame m s).antenna = (0, s.pm.antLatch)) := by
  have before := slotsTested_antenna g m s
  have filter : (slotsTested g m s).pm.antFilter = (arrival m s).pm.antFilter := by
    rw [arrival_pm]
    exact congrArg Prod.fst before
  have latch : (slotsTested g m s).pm.antLatch = s.pm.antLatch := congrArg Prod.snd before
  obtain ⟨latches, counts, passes⟩ := testAntenna_cases (g := g) (m := m) filter
  have after {n : Nat} {b : Bool} (test : (testAntenna g (arrival m s) m (slotsTested g m s)).antenna = (n, b)) :
      (goodFrame m s).antenna = (n, b) := by
    rw [goodFrame_tested held, thermal_antenna]
    exact test
  rw [arrival_antennaLatches] at latches
  rw [arrival_antennaFails, arrival_pm] at counts
  rw [arrival_antennaFails] at passes
  refine ⟨fun h => after ?_, fun h short => after ?_, fun h => after ?_⟩
  · rw [latches h, latchAntenna_antenna]
  · rw [counts h short, ← latch]
    rfl
  · rw [passes h, ← latch]
    rfl

end

end Sys2Proof.Machine
end

section
/-! SUPPORT. The settle flags after a measurement frame (R18, R45, R46), and the frame's effect on the filter counts. -/

namespace Sys2Proof.Machine

/-! ## Tests that trip nothing -/

/-- Nothing but filter counts of the Protection Monitor is changed. -/
structure CountsOnly (s t : State) : Prop where
  frame : t = { s with pm := t.pm }
  antSettle : t.pm.antSettle = s.pm.antSettle
  settle : ∀ k, (t.pm.slots.get k).settle = (s.pm.slots.get k).settle

section
variable {a s t u : State} {g : Setting} {m : MeasFrame}

theorem CountsOnly.refl (s : State) : CountsOnly s s := ⟨rfl, rfl, fun _ => rfl⟩

theorem CountsOnly.trans (h : CountsOnly s t) (h' : CountsOnly t u) : CountsOnly s u where
  frame := by rw [h'.frame, h.frame]
  antSettle := h'.antSettle.trans h.antSettle
  settle k := (h'.settle k).trans (h.settle k)

theorem setFilter_countsOnly (k : Slot) (n : Nat) (s : State) : CountsOnly s (setFilter k n s) :=
  ⟨rfl, rfl, fun j => Six.get_modify_field s.pm.slots k j _ SlotGuard.settle fun _ => rfl⟩

/-- Where no slot is over-driven the tests of the slots change counts alone (R45). -/
theorem testSlots_countsOnly {l : List Slot} (nodup : l.Nodup)
    (filters : ∀ j ∈ l, (s.pm.slots.get j).filter = (a.pm.slots.get j).filter) (quiet : ∀ j ∈ l, ¬ a.overDriven g m j) :
    CountsOnly s (l.foldl (testSlot g a m) s) := by
  induction l generalizing s with
  | nil => exact .refl s
  | cons j l ih =>
    obtain ⟨other, rest⟩ := List.nodup_cons.mp nodup
    obtain ⟨n, counted⟩ := testSlot_counts (quiet j (List.mem_cons_self ..)) (filters j (List.mem_cons_self ..))
    rw [List.foldl_cons, counted]
    refine (setFilter_countsOnly j n s).trans (ih rest (fun i mem => ?_) fun i mem => quiet i (List.mem_cons_of_mem _ mem))
    have ne : i ≠ j := fun same => other (same ▸ mem)
    rw [← filters i (List.mem_cons_of_mem _ mem)]
    simp [setFilter, Six.get_modify, ne]

/-- Where the antenna does not latch its test changes its count alone (R55). -/
theorem testAntenna_countsOnly (filter : s.pm.antFilter = a.pm.antFilter) (quiet : ¬ a.antennaLatches g m) :
    CountsOnly s (testAntenna g a m s) := by
  have counted (n : Nat) : CountsOnly s (setAntFilter n s) := ⟨rfl, rfl, fun _ => rfl⟩
  obtain ⟨-, counts, passes⟩ := testAntenna_cases (g := g) (m := m) filter
  by_cases fails : a.antennaFails g m
  · rw [counts fails (not_le.mp fun count => quiet ⟨fails, count⟩)]
    exact counted _
  · rw [passes fails]
    exact counted _

/-- A frame that trips no slot and does not latch the antenna. -/
def State.framePasses (s : State) (g : Setting) (m : MeasFrame) : Prop :=
  (∀ k, ¬ s.overDriven g m k) ∧ ¬ s.antennaLatches g m

/-- The state in which the temperature of a frame is judged: the tests are done and the settle flags of the arrival are
cleared (R45). -/
def afterTests (g : Setting) (m : MeasFrame) (s : State) : State :=
  clearSettled (arrival m s) (testAntenna g (arrival m s) m (slotsTested g m s))

theorem clearSettled_settle (a s : State) (k : Slot) :
    ((clearSettled a s).pm.slots.get k).settle = ((s.pm.slots.get k).settle && !(a.pm.slots.get k).settle) := by
  simp [clearSettled]

/-- A settle flag set on arrival is clear after the tests (R45 step 3, R46). -/
theorem afterTests_cleared (g : Setting) (m : MeasFrame) (s : State) :
    (∀ k, (s.pm.slots.get k).settle = true → ((afterTests g m s).pm.slots.get k).settle = false) ∧
      (s.pm.antSettle = true → (afterTests g m s).pm.antSettle = false) := by
  refine ⟨fun k set => ?_, fun set => ?_⟩
  · rw [afterTests, clearSettled_settle, arrival_pm, set, Bool.not_true, Bool.and_false]
  · show (_ && !(arrival m s).pm.antSettle) = false
    rw [arrival_pm, set, Bool.not_true, Bool.and_false]

/-- Where nothing trips or latches the tests leave every settle flag clear and every level (R46). -/
theorem afterTests_passes (passes : s.framePasses g m) :
    (∀ k, ((afterTests g m s).pm.slots.get k).settle = false) ∧ (afterTests g m s).pm.antSettle = false ∧
      ∀ k, ((afterTests g m s).ca.slots.get k).lastSent = (s.ca.slots.get k).lastSent := by
  obtain ⟨slots, antenna⟩ := passes
  have filter : (slotsTested g m s).pm.antFilter = (arrival m s).pm.antFilter := by
    rw [arrival_pm]
    exact congrArg Prod.fst (slotsTested_antenna g m s)
  have tests : CountsOnly (arrival m s) (slotsTested g m s) :=
    testSlots_countsOnly Slot.all_nodup (fun _ _ => rfl) fun j _ => mt (arrival_overDriven m).mp (slots j)
  have counts := tests.trans (testAntenna_countsOnly filter (mt arrival_antennaLatches.mp antenna))
  refine ⟨fun k => ?_, ?_, fun k => ?_⟩
  · rw [afterTests, clearSettled_settle, counts.settle, Bool.and_not_self]
  · show (_ && !(arrival m s).pm.antSettle) = false
    rw [counts.antSettle, Bool.and_not_self]
  · rw [afterTests, clearSettled_ca, counts.frame]
    show ((arrival m s).ca.slots.get k).lastSent = _
    rw [(arrival_alike m s).slots k]

/-! ## The levels that a change of derate step or mute hands over -/

/-- The settle flags are those of the levels that have changed since they stood at `level` (R18). -/
def FlagsFollow (level : Slot → Nat) (s : State) : Prop :=
  (∀ k, (s.pm.slots.get k).settle = !((s.ca.slots.get k).lastSent == level k)) ∧
    s.pm.antSettle = Slot.all.any fun k => !((s.ca.slots.get k).lastSent == level k)

/-- The flags follow the levels, and no level has changed yet or the node is off the air with every level 0, so that a pass
keeps the flags following. -/
def LevelsSettled (level : Slot → Nat) (s : State) : Prop :=
  FlagsFollow level s ∧
    ((∀ k, (s.ca.slots.get k).lastSent = level k) ∨ s.onAir = false ∧ ∀ k, (s.ca.slots.get k).lastSent = 0)

variable {level : Slot → Nat}

theorem FlagsFollow.of_same (h : FlagsFollow level s) (pm : t.pm = s.pm)
    (sent : ∀ k, (t.ca.slots.get k).lastSent = (s.ca.slots.get k).lastSent) : FlagsFollow level t := by
  simpa only [FlagsFollow, pm, sent] using h

theorem LevelsSettled.of_same (h : LevelsSettled level s) (pm : t.pm = s.pm) (state : t.nc.state = s.nc.state)
    (sent : ∀ k, (t.ca.slots.get k).lastSent = (s.ca.slots.get k).lastSent) : LevelsSettled level t := by
  refine ⟨h.1.of_same pm sent, ?_⟩
  simpa only [State.onAir, state, sent] using h.2

theorem participates_of_offAir (h : s.onAir = false) (k : Slot) : s.participates k = false := by
  simp [State.participates, h]

/-- A pass on levels that have not changed sets the flags of those it changes, and off the air it changes none (R18). -/
theorem LevelsSettled.pass (h : LevelsSettled level s) : FlagsFollow level (pass s) := by
  obtain ⟨⟨settle, antSettle⟩, fresh | ⟨offAir, silent⟩⟩ := h
  · have changes (k : Slot) : s.passChanges k = !(((Machine.pass s).ca.slots.get k).lastSent == level k) := by
      rw [State.passChanges, pass_lastSent, pass_grant, fresh]
    have clear (k : Slot) : (s.pm.slots.get k).settle = false := by rw [settle, fresh, beq_self_eq_true, Bool.not_true]
    refine ⟨fun k => ?_, ?_⟩
    · rw [pass_guard, clear, Bool.false_or, changes]
    · have quiet : s.pm.antSettle = false := by simp [antSettle, fresh]
      rw [pass_pm, quiet, Bool.false_or]
      exact congrArg Slot.all.any (funext changes)
  · have sent (k : Slot) : ((Machine.pass s).ca.slots.get k).lastSent = (s.ca.slots.get k).lastSent := by
      rw [pass_silent s k (participates_of_offAir offAir k), silent]
    have unchanged (k : Slot) : s.passChanges k = false := by
      have same := sent k
      rw [pass_lastSent, pass_grant] at same
      rw [State.passChanges, same, beq_self_eq_true, Bool.not_true]
    refine ⟨fun k => ?_, ?_⟩
    · rw [pass_guard, unchanged, Bool.or_false, sent, settle]
    · rw [pass_pm, show Slot.all.any s.passChanges = false by simp [unchanged], Bool.or_false, antSettle]
      simp only [sent]

theorem evaluateOff_levelsSettled (h : LevelsSettled level s) : LevelsSettled level (evaluateOff s) :=
  h.of_same (evaluateOff_pm s) (by rw [evaluateOff_nc]) fun k => by rw [evaluateOff_slot]

theorem withdraw_levelsSettled (h : LevelsSettled level s) : LevelsSettled level (withdraw s) := by
  by_cases stays : s.onAir = false ∨ s.nc.restart = .inProgress
  · rwa [withdraw_stays stays]
  · simp only [not_or, Bool.not_eq_false] at stays
    obtain ⟨air, running⟩ := stays
    obtain ⟨flags, fresh | ⟨offAir, -⟩⟩ := h
    · have leaving : LevelsSettled level s.leavingAir :=
        ⟨flags.of_same rfl fun k => by rw [leavingAir_slot], .inl fun k => by rw [leavingAir_slot]; exact fresh k⟩
      have passed := (evaluateOff_levelsSettled leaving).pass
      rw [withdraw_enters air running]
      refine ⟨?_, .inr ⟨by rw [State.onAir, enterWithdrawn_nc]; rfl, fun k => by rw [enterWithdrawn_slot running]⟩⟩
      rw [enterWithdrawn_eq, stateChanged]
      refine (passed.of_same (t := alarm _) (alarm_pm _) fun k => by rw [alarm_ca]).of_same (breakRequest_pm _) fun k => ?_
      rw [breakRequest_ca]
    · exact absurd air (by rw [offAir]; exact Bool.false_ne_true)

theorem raiseFault_levelsSettled (key : Key) (x : Option (Int × Int)) (h : LevelsSettled level s) :
    LevelsSettled level (raiseFault key x s) :=
  raiseFault_brings (R := fun u v => LevelsSettled level u → LevelsSettled level v) (fun _ => id) (fun p q => q ∘ p)
    (fun _ p => p.of_same (alarm_pm _) (by rw [alarm_nc]) fun k => by rw [alarm_ca]) (fun _ => withdraw_levelsSettled)
    (fun _ p => p.of_same (breakRequest_pm _) (by rw [breakRequest_nc]) fun k => by rw [breakRequest_ca]) key x s h

theorem reportDerate_levelsSettled (before after : Nat) (x : Int) (h : LevelsSettled level s) :
    LevelsSettled level (reportDerate g before after x s) := by
  unfold reportDerate
  split_ifs
  exacts [raiseFault_levelsSettled _ _ h, h, h]

theorem reportMute_levelsSettled (before after : Bool) (x : Int) (h : LevelsSettled level s) :
    LevelsSettled level (reportMute g before after x s) := by
  unfold reportMute
  split_ifs
  exacts [raiseFault_levelsSettled _ _ h, h, h]

/-- After a change of derate step or mute the settle flags are those of the levels that it has changed (R18, R21). -/
theorem thermal_flags {x : Int}
    (changed : ¬ (nextStep g s.mi.derate x = s.mi.derate ∧ nextMute g s.mi.mute x = s.mi.mute))
    (settle : ∀ k, (s.pm.slots.get k).settle = false) (antSettle : s.pm.antSettle = false) :
    (∀ k, ((thermal g x s).pm.slots.get k).settle =
      !(((thermal g x s).ca.slots.get k).grant == (s.ca.slots.get k).lastSent)) ∧
    (thermal g x s).pm.antSettle =
      Slot.all.any fun k => !(((thermal g x s).ca.slots.get k).grant == (s.ca.slots.get k).lastSent) := by
  have fresh (d : Nat) (b : Bool) : LevelsSettled (fun k => (s.ca.slots.get k).lastSent) (s.derated d b) := by
    refine ⟨⟨fun k => ?_, ?_⟩, .inl fun _ => rfl⟩
    · show (s.pm.slots.get k).settle = !((s.ca.slots.get k).lastSent == (s.ca.slots.get k).lastSent)
      rw [settle, beq_self_eq_true, Bool.not_true]
    · show s.pm.antSettle = Slot.all.any fun k => !((s.ca.slots.get k).lastSent == (s.ca.slots.get k).lastSent)
      simp [antSettle]
  have follow : FlagsFollow (fun k => (s.ca.slots.get k).lastSent) (thermal g x s) := by
    rw [thermal_changed changed]
    exact (evaluateOff_levelsSettled (reportMute_levelsSettled _ _ x (reportDerate_levelsSettled _ _ x (fresh _ _)))).pass
  have sent (k : Slot) : ((thermal g x s).ca.slots.get k).lastSent = ((thermal g x s).ca.slots.get k).grant := by
    rw [thermal_changed changed, pass_lastSent]
  simpa only [FlagsFollow, sent] using follow

end

/-! ## The frame -/

section
variable {s : State} {g : Setting} {m : MeasFrame}

theorem goodFrame_afterTests (held : s.nc.setting = some g) :
    goodFrame m s = thermal g m.temperature (afterTests g m s) := goodFrame_tested held

/-- A frame keeps derate step and mute exactly where its temperature calls for no change after the tests. -/
theorem goodFrame_steady_iff (held : s.nc.setting = some g) :
    ((goodFrame m s).mi.derate = s.mi.derate ∧ (goodFrame m s).mi.mute = s.mi.mute) ↔
      (nextStep g (afterTests g m s).mi.derate m.temperature = (afterTests g m s).mi.derate ∧
        nextMute g (afterTests g m s).mi.mute m.temperature = (afterTests g m s).mi.mute) := by
  have tests : protect m (arrival m s) = afterTests g m s := by
    rw [protect, (arrival_alike m s).setting.trans held]
    rfl
  have derate := protected_derate m s
  have mute := protected_mute m s
  rw [goodFrame_afterTests held, thermal_intake, ← tests, derate, mute]

theorem goodFrame_steady (held : s.nc.setting = some g)
    (steady : (goodFrame m s).mi.derate = s.mi.derate ∧ (goodFrame m s).mi.mute = s.mi.mute) :
    goodFrame m s = afterTests g m s := by
  obtain ⟨derate, mute⟩ := (goodFrame_steady_iff held).mp steady
  rw [goodFrame_afterTests held, thermal_same derate mute]

/-- Where nothing trips or latches and derate step or mute changes, the settle flags are those of the levels changed
(R18, R46). -/
theorem goodFrame_flags (held : s.nc.setting = some g) (passes : s.framePasses g m)
    (changed : ¬ ((goodFrame m s).mi.derate = s.mi.derate ∧ (goodFrame m s).mi.mute = s.mi.mute)) :
    (∀ k, ((goodFrame m s).pm.slots.get k).settle =
      !(((goodFrame m s).ca.slots.get k).grant == (s.ca.slots.get k).lastSent)) ∧
    (goodFrame m s).pm.antSettle =
      Slot.all.any fun k => !(((goodFrame m s).ca.slots.get k).grant == (s.ca.slots.get k).lastSent) := by
  obtain ⟨settle, antSettle, sent⟩ := afterTests_passes passes
  have flags := thermal_flags (mt (goodFrame_steady_iff held).mpr changed) settle antSettle
  simp only [sent] at flags
  rwa [goodFrame_afterTests held]

/-- The test of a slot in the words of R47. -/
theorem slotTested_iff (held : s.nc.setting = some g) (k : Slot) :
    s.slotTested k = true ↔ s.configured = true ∧ s.nc.restart ≠ .inProgress ∧ s.participates k = true ∧
      20 ≤ (s.ca.slots.get k).grant ∧ (s.pm.slots.get k).settle = false := by
  simp [State.slotTested, State.restarting, held, and_assoc]

/-- The test of the antenna in the words of R55. -/
theorem antennaTested_iff (held : s.nc.setting = some g) :
    s.antennaTested m = true ↔ s.configured = true ∧ s.nc.restart ≠ .inProgress ∧ s.pm.antLatch = false ∧
      s.pm.antSettle = false ∧ 50 ≤ m.compForward := by
  simp [State.antennaTested, State.restarting, held, and_assoc]

/-- With no image held a frame leaves the Protection Monitor with every count and every settle flag clear (R44). -/
theorem goodFrame_pm_unheld (none : s.nc.setting = none) :
    (goodFrame m s).pm.antFilter = 0 ∧ (goodFrame m s).pm.antSettle = false ∧
      (goodFrame m s).pm.antLatch = s.pm.antLatch ∧
      ∀ k, (goodFrame m s).pm.slots.get k = { s.pm.slots.get k with filter := 0, settle := false } := by
  have tests : protect m (arrival m s) = clearSettled (arrival m s) (clearFilters (arrival m s)) := by
    rw [protect, (arrival_alike m s).setting.trans none]
  rw [goodFrame_unheld none, tests]
  simp [clearSettled, clearFilters, arrival_pm]

end

/-- Settles O29: what the test of a slot or of the antenna leaves stands to the end of the frame, and the settle flags follow
the levels handed over after the tests. -/
theorem filterCountsFollowTests : Obligations.FilterCountsFollowTests := by
  refine ⟨fun bits s m g acts parsed held => ⟨_, exec_measurementFrame acts parsed, fun k => ?_, ?_, ?_⟩,
    fun bits s m acts parsed none => ⟨_, exec_measurementFrame acts parsed, goodFrame_pm_unheld none⟩⟩
  · intro tested fails n
    have fails_iff : s.slotFails g (clampMeasurement m) k ↔ tested ∧ fails := and_congr_left' (slotTested_iff held k)
    have short_of (h : n < g.tripFilter) : ¬ s.overDriven g (clampMeasurement m) k :=
      fun driven => absurd (overDriven_iff.mp driven).2 (not_le.mpr h)
    refine ⟨fun passes => ?_, fun isTested isOver short => ?_, fun isTested isOver count => ?_, ?_⟩
    · have passed := mt fails_iff.mp passes
      obtain ⟨trip, -, -, -, reset⟩ := goodFrame_untripped held fun driven => passed (overDriven_iff.mp driven).1
      exact ⟨reset passed, trip⟩
    · obtain ⟨trip, -, -, raised, -⟩ := goodFrame_untripped held (short_of short)
      exact ⟨raised (fails_iff.mpr ⟨isTested, isOver⟩), trip⟩
    · have driven := overDriven_iff.mpr ⟨fails_iff.mpr ⟨isTested, isOver⟩, count⟩
      obtain ⟨x, holdOff, leaves⟩ := goodFrame_leaves held driven
      exact ⟨(goodFrame_trip_counts held driven).1, leaves.silenced.trip⟩
    · by_cases driven : s.overDriven g (clampMeasurement m) k
      · exact (goodFrame_trip_counts held driven).2
      · obtain ⟨-, retry, -⟩ := goodFrame_untripped held driven
        exact retry
  · intro tested fails n
    have fails_iff : s.antennaFails g (clampMeasurement m) ↔ tested ∧ fails :=
      and_congr_left' (antennaTested_iff (m := clampMeasurement m) held)
    obtain ⟨latches, counts, passes⟩ := goodFrame_antenna (m := clampMeasurement m) held
    refine ⟨fun h => Prod.mk.inj (passes (mt fails_iff.mp h)), fun isTested isOver short => ?_,
      fun isTested isOver count => ?_⟩
    · exact Prod.mk.inj (counts (fails_iff.mpr ⟨isTested, isOver⟩) short)
    · exact Prod.mk.inj (latches ⟨fails_iff.mpr ⟨isTested, isOver⟩, count⟩)
  · intro steady latches quiet
    have passes_of (h : quiet) : s.framePasses g (clampMeasurement m) :=
      ⟨h.1, fun ⟨⟨tested, power⟩, count⟩ => h.2 ⟨tested, power, count⟩⟩
    obtain ⟨slots, antenna⟩ := afterTests_cleared g (clampMeasurement m) s
    refine ⟨fun same k set => ?_, fun same set => ?_, fun none same => ?_, fun none changed =>
      goodFrame_flags held (passes_of none) changed⟩
    · rw [goodFrame_steady held same, slots k set]
    · rw [goodFrame_steady held same, antenna set]
    · obtain ⟨settle, antSettle, -⟩ := afterTests_passes (passes_of none)
      rw [goodFrame_steady held same]
      exact ⟨settle, antSettle⟩

end Sys2Proof.Machine
end

section
/-! SUPPORT. A measurement frame on which the antenna latches: ANT, the entry to Withdrawn and the break request (R55, R56,
R76, R150). -/

namespace Sys2Proof.Machine

/-! ## Off the air -/

/-- The node is in Withdrawn, with the Spread Unit stopped and no power granted (R163). -/
structure State.silent (s : State) : Prop where
  state : s.nc.state = some .withdrawn
  su : s.su = ⟨.stopped, none⟩
  grant : ∀ k, (s.ca.slots.get k).grant = 0

/-- A node on the air stays there or is withdrawn, and one withdrawn stays so. -/
structure Descends (s t : State) : Prop where
  onAir : s.onAir = true → t.onAir = true ∨ t.silent
  silent : s.silent → t.silent
  restart : t.nc.restart = s.nc.restart

section
variable {s t u : State}

theorem Descends.refl (s : State) : Descends s s := ⟨.inl, id, rfl⟩

theorem Descends.trans (h : Descends s t) (h' : Descends t u) : Descends s u :=
  ⟨fun air => (h.onAir air).elim h'.onAir fun silent => .inr (h'.silent silent), h'.silent ∘ h.silent,
    h'.restart.trans h.restart⟩

theorem silent_offAir (h : s.silent) : s.onAir = false := by
  rw [State.onAir, h.state]
  rfl

/-- Work that leaves Node Control, the Spread Unit and the grants. -/
theorem Descends.of_same (nc : t.nc = s.nc) (su : t.su = s.su)
    (grant : ∀ k, (t.ca.slots.get k).grant = (s.ca.slots.get k).grant) : Descends s t where
  onAir air := .inl (by rwa [State.onAir, nc])
  silent h := ⟨nc ▸ h.state, su.trans h.su, fun k => (grant k).trans (h.grant k)⟩
  restart := by rw [nc]

theorem pass_descends : Descends s (pass s) where
  onAir air := .inl (by rwa [State.onAir, pass_nc])
  silent h := by
    refine ⟨?_, (pass_su s).trans h.su, fun k => ?_⟩
    · rw [pass_nc, h.state]
    · rw [pass_silent s k (participates_of_offAir (silent_offAir h) k)]
  restart := by rw [pass_nc]

theorem evaluateOff_descends : Descends s (evaluateOff s) :=
  .of_same (evaluateOff_nc s) (evaluateOff_su s) fun k => by rw [evaluateOff_slot]

theorem enterWithdrawn_silent (running : s.nc.restart ≠ .inProgress) : (enterWithdrawn s).silent :=
  ⟨by rw [enterWithdrawn_nc], enterWithdrawn_su s, fun k => by rw [enterWithdrawn_slot running]⟩

theorem withdraw_descends : Descends s (withdraw s) := by
  by_cases stays : s.onAir = false ∨ s.nc.restart = .inProgress
  · rw [withdraw_stays stays]
    exact .refl s
  · simp only [not_or, Bool.not_eq_false] at stays
    obtain ⟨air, running⟩ := stays
    rw [withdraw_enters air running]
    exact ⟨fun _ => .inr (enterWithdrawn_silent running), fun _ => enterWithdrawn_silent running, by rw [enterWithdrawn_nc]⟩

theorem raiseFault_descends (key : Key) (x : Option (Int × Int)) : Descends s (raiseFault key x s) := by
  have recorded : Descends s (raiseRecord key x s) := .of_same rfl rfl fun _ => rfl
  exact recorded.trans (raiseFault_brings .refl .trans
    (fun u => .of_same (alarm_nc u) (alarm_su u) fun k => by rw [alarm_ca]) (fun _ => withdraw_descends)
    (fun u => .of_same (breakRequest_nc u) (breakRequest_su u) fun k => by rw [breakRequest_ca]) key x s)

theorem tripSlot_descends (g : Setting) (a : State) (forward : Nat) (k : Slot) : Descends s (tripSlot g a forward k s) := by
  have tripped (x : TripState) : Descends s (slotTripped k x s) :=
    .of_same rfl rfl fun j => Six.get_modify_field s.ca.slots k j _ SlotRecord.grant fun _ => rfl
  have silenced (u : State) : Descends u (silenceLevel k u) := by
    unfold silenceLevel
    split_ifs
    · exact .refl u
    · exact .of_same rfl rfl fun j => by rw [sendLevel_slot_frame]
  have settled (u : State) : Descends u (settleMonitor k u) := .of_same rfl rfl fun _ => rfl
  have raised (x : TripState) (kind : Kind) : Descends s (tripRaised g a forward k x kind s) := by
    rw [tripRaised, tripActions_eq]
    exact ((((tripped x).trans evaluateOff_descends).trans ((silenced _).trans (settled _))).trans pass_descends).trans
      (raiseFault_descends _ _)
  have started (u : State) (length : Nat) : Descends u (startHoldOff k length u) := .of_same rfl rfl fun _ => rfl
  rcases tripSlot_cases g a forward k s with outcome | outcome
  · rw [outcome]
    exact (raised _ _).trans (started _ _)
  · rw [outcome]
    exact raised _ _

/-! ## What the tests of the slots leave -/

/-- What the tests of the slots leave for the antenna's test: whether ANT is Active, the clock, and what decides on a
break request; and the node is on the air as before, or withdrawn. -/
structure Untouched (s t : State) : Prop extends Descends s t where
  ant : t.fr.isActive (.plain .ant) = s.fr.isActive (.plain .ant)
  spaced : t.breakSpaced ↔ s.breakSpaced

theorem Untouched.refl (s : State) : Untouched s s := ⟨.refl s, rfl, .rfl⟩

theorem Untouched.trans (h : Untouched s t) (h' : Untouched t u) : Untouched s u :=
  ⟨h.toDescends.trans h'.toDescends, h'.ant.trans h.ant, h'.spaced.trans h.spaced⟩

theorem tripSlot_isActive {key : Key} (short : key ≠ .plain .flr) (slot : key.slot = none) (g : Setting) (a : State)
    (forward : Nat) (k : Slot) (s : State) : (tripSlot g a forward k s).fr.isActive key = s.fr.isActive key := by
  have raised (x : TripState) (kind : Kind) : (tripRaised g a forward k x kind s).fr.isActive key = s.fr.isActive key := by
    have other : key ≠ .ofSlot kind k := fun same => nomatch slot.symm.trans (congrArg Key.slot same)
    rw [tripRaised, (raiseFault_spares _ short other).isActive, tripActions_isActive k _ short]
    rfl
  rcases tripSlot_cases g a forward k s with outcome | outcome
  · rw [outcome, startHoldOff_fr, raised]
  · rw [outcome, raised]

theorem testSlot_untouched (g : Setting) (a : State) (m : MeasFrame) (k : Slot) : Untouched s (testSlot g a m s k) := by
  have counted (n : Nat) : Untouched s (setFilter k n s) := ⟨.of_same rfl rfl fun _ => rfl, rfl, .rfl⟩
  unfold testSlot
  dsimp only
  split_ifs
  · refine ⟨tripSlot_descends g a _ k, tripSlot_isActive (by decide) rfl g a _ k s, ?_⟩
    rw [State.breakSpaced, tripSlot_mode, tripSlot_lastBreak, tripSlot_now]
    rfl
  · exact counted _
  · exact counted _
  · exact counted _

theorem testSlots_untouched (g : Setting) (a : State) (m : MeasFrame) (l : List Slot) :
    Untouched s (l.foldl (testSlot g a m) s) := by
  induction l generalizing s with
  | nil => exact .refl s
  | cons k l ih => exact (testSlot_untouched g a m k).trans ih

theorem arrival_lc (m : MeasFrame) (s : State) : (arrival m s).lc = s.lc := by
  rw [arrival, loadWork_lc, refreshSampleTimer_lc]

theorem arrival_untouched (m : MeasFrame) (s : State) : Untouched s (arrival m s) where
  toDescends := .of_same (arrival_nc m s) (by rw [arrival, loadWork_su, refreshSampleTimer_su]) fun k => by
    rw [(arrival_alike m s).slots k]
  ant := arrival_isActive m s (by decide)
  spaced := by
    rw [State.breakSpaced, arrival_lc, (arrival_apart (a := s) (k := .s1) m s).now]
    rfl

/-! ## What follows the latch -/

/-- What the work after the latch leaves: ANT as it is recorded, a break request that is pending, the withdrawal. -/
structure Concludes (s t : State) : Prop extends Descends s t where
  ant : ∀ x, Recorded (.plain .ant) x s → Recorded (.plain .ant) x t
  active : t.fr.isActive (.plain .ant) = s.fr.isActive (.plain .ant)
  pendingBreak : s.lc.pendingBreak = true → t.lc.pendingBreak = true

theorem Concludes.refl (s : State) : Concludes s s := ⟨.refl s, fun _ => id, rfl, id⟩

theorem Concludes.trans (h : Concludes s t) (h' : Concludes t u) : Concludes s u :=
  ⟨h.toDescends.trans h'.toDescends, fun x => h'.ant x ∘ h.ant x, h'.active.trans h.active,
    h'.pendingBreak ∘ h.pendingBreak⟩

theorem Concludes.of_spares (descends : Descends s t) (spares : Spares (.plain .ant) s t)
    (pendingBreak : s.lc.pendingBreak = true → t.lc.pendingBreak = true) : Concludes s t :=
  ⟨descends, fun _ => spares.recorded, spares.isActive, pendingBreak⟩

theorem reallot_concludes : Concludes s (pass (evaluateOff s)) :=
  .of_spares (evaluateOff_descends.trans pass_descends) (reallot_spares (by decide)) fun h => by
    rwa [pass_lc, evaluateOff_pendingBreak]

/-- A break request that is pending stays so (R76). -/
theorem breakRequest_stillPending (h : s.lc.pendingBreak = true) : (breakRequest s).lc.pendingBreak = true := by
  rcases breakRequest_cases s with ⟨-, -, asked⟩ | ⟨-, same⟩
  · rw [asked]
  · rwa [same]

theorem withdraw_stillPending (h : s.lc.pendingBreak = true) : (withdraw s).lc.pendingBreak = true := by
  unfold withdraw
  split_ifs
  · rw [enterWithdrawn_eq]
    exact breakRequest_stillPending (by rwa [stateChanged_pendingBreak])
  · exact h

theorem raiseFault_stillPending (key : Key) (x : Option (Int × Int)) (h : s.lc.pendingBreak = true) :
    (raiseFault key x s).lc.pendingBreak = true :=
  raiseFault_brings (R := fun u v => u.lc.pendingBreak = true → v.lc.pendingBreak = true) (fun _ => id) (fun p q => q ∘ p)
    (fun _ pending => by rwa [alarm_pendingBreak]) (fun _ => withdraw_stillPending) (fun _ => breakRequest_stillPending) key x s h

theorem raiseFault_concludes {key : Key} (x : Option (Int × Int)) (other : .plain .ant ≠ key) :
    Concludes s (raiseFault key x s) :=
  .of_spares (raiseFault_descends key x) (raiseFault_spares x (by decide) other) (raiseFault_stillPending key x)

theorem clearRecord_concludes {key : Key} (other : .plain .ant ≠ key) : Concludes s (clearRecord key s) :=
  .of_spares (.of_same rfl rfl fun _ => rfl) (clearRecord_spares other) id

theorem thermal_concludes (g : Setting) (x : Int) : Concludes s (thermal g x s) := by
  have derated (d : Nat) (b : Bool) : Concludes s (s.derated d b) := ⟨.of_same rfl rfl fun _ => rfl, fun _ => id, rfl, id⟩
  have derate (before after : Nat) (u : State) : Concludes u (reportDerate g before after x u) := by
    unfold reportDerate
    split_ifs
    exacts [raiseFault_concludes _ (by decide), clearRecord_concludes (by decide), .refl u]
  have mute (before after : Bool) (u : State) : Concludes u (reportMute g before after x u) := by
    unfold reportMute
    split_ifs
    exacts [raiseFault_concludes _ (by decide), clearRecord_concludes (by decide), .refl u]
  by_cases changed : nextStep g s.mi.derate x = s.mi.derate ∧ nextMute g s.mi.mute x = s.mi.mute
  · rw [thermal_same changed.1 changed.2]
    exact .refl s
  · rw [thermal_changed changed]
    exact (((derated _ _).trans (derate _ _ _)).trans (mute _ _ _)).trans reallot_concludes

end

/-! ## The latch -/

section
variable {s : State} {g : Setting} {m : MeasFrame}

/-- What the record of a latch carries: the reflected power and the limit of the forward power (R56). -/
def antennaReading (g : Setting) (m : MeasFrame) : Option (Int × Int) :=
  some ((m.compReflected : Int), ((m.compForward * g.returnLimit / 16 : Nat) : Int))

theorem latchAntenna_eq (g : Setting) (m : MeasFrame) (s : State) :
    latchAntenna g m s =
      raiseFault (.plain .ant) (antennaReading g m) { s with pm := { s.pm with antLatch := true, antFilter := 0 } } := rfl

/-- The latch reports ANT, withdraws a node on the air, and asks for a break (R56, R76, R150). -/
theorem latchAntenna_withdraws (inactive : s.fr.isActive (.plain .ant) = false) (room : s.fr.log.length < 32)
    (running : s.nc.restart ≠ .inProgress) :
    Reported (.plain .ant) (antennaReading g m) s (latchAntenna g m s) ∧
      (s.onAir = true ∨ s.silent → (latchAntenna g m s).silent) ∧
      (s.breakSpaced → (latchAntenna g m s).lc.pendingBreak = true) := by
  have latched : Descends s { s with pm := { s.pm with antLatch := true, antFilter := 0 } } := .of_same rfl rfl fun _ => rfl
  have reported := raiseFault_reported (key := .plain .ant) (x := antennaReading g m)
    (s := { s with pm := { s.pm with antLatch := true, antFilter := 0 } }) (by decide) room
  rw [latchAntenna_eq]
  refine ⟨reported.of_isActive rfl, fun air => ?_, fun spaced => ?_⟩
  · rcases air with air | silent
    · obtain ⟨nc, su, slots⟩ := raiseFault_severe_escalates (k := .plain .ant)
        (s := { s with pm := { s.pm with antLatch := true, antFilter := 0 } }) (antennaReading g m) (by decide) inactive room
        ⟨.inl rfl, air, running⟩
      exact ⟨by rw [nc], su, fun k => by rw [slots k]⟩
    · exact (raiseFault_descends _ _).silent (latched.silent silent)
  · obtain ⟨asked, -⟩ := raiseFault_severe_pendingBreak (k := .plain .ant)
      (s := { s with pm := { s.pm with antLatch := true, antFilter := 0 } }) (antennaReading g m) (by decide) inactive room
    exact asked ⟨.inl rfl, spaced⟩

theorem slotsTested_untouched (g : Setting) (m : MeasFrame) (s : State) : Untouched s (slotsTested g m s) :=
  (arrival_untouched m s).trans (testSlots_untouched g _ m Slot.all)

theorem slotsTested_length (short : s.fr.log.length ≤ 20) : (slotsTested g m s).fr.log.length < 32 := by
  have tests := testSlots_places g (arrival m s) m Slot.all (arrival m s)
  have arrived := arrival_places m s
  have places := places_le s.fr
  have length := length_le_places (slotsTested g m s).fr
  have six : Slot.all.length = 6 := rfl
  unfold slotsTested at *
  omega

end

/-- Settles O31: the tests of the slots leave the antenna's test what it needs, the latch does the rest, and the temperature's
work leaves it. -/
theorem antennaLatchWithdrawsNode : Obligations.AntennaLatchWithdrawsNode := by
  intro bits s m g acts parsed held tested power count inactive short
  have latches : s.antennaLatches g (clampMeasurement m) := ⟨⟨tested, power⟩, count⟩
  have before := slotsTested_untouched g (clampMeasurement m) s
  have running : s.nc.restart ≠ .inProgress := ((antennaTested_iff held).mp tested).2.1
  have filter : (slotsTested g (clampMeasurement m) s).pm.antFilter = (arrival (clampMeasurement m) s).pm.antFilter := by
    rw [arrival_pm]
    exact congrArg Prod.fst (slotsTested_antenna g _ s)
  obtain ⟨⟨active, recorded⟩, silent, pending⟩ := latchAntenna_withdraws (g := g) (m := clampMeasurement m)
    (before.ant.trans inactive) (slotsTested_length short) (before.restart ▸ running)
  have after : Concludes (latchAntenna g (clampMeasurement m) (slotsTested g (clampMeasurement m) s))
      (goodFrame (clampMeasurement m) s) := by
    have cleared (u : State) : Concludes u (clearSettled (arrival (clampMeasurement m) s) u) :=
      ⟨.of_same rfl rfl fun _ => rfl, fun _ => id, rfl, id⟩
    rw [goodFrame_tested held, (testAntenna_cases filter).1 (arrival_antennaLatches.mpr latches)]
    exact (cleared _).trans (thermal_concludes g _)
  have antenna := (goodFrame_antenna held).1 latches
  refine ⟨_, exec_measurementFrame acts parsed, congrArg Prod.snd antenna, after.active.trans active,
    after.ant _ (recorded (before.ant.trans inactive)), fun air => ?_, fun normal spaced => ?_⟩
  · obtain ⟨state, su, grant⟩ := after.silent (silent (before.onAir air))
    exact ⟨state, su, grant⟩
  · exact after.pendingBreak (pending (before.spaced.mpr ⟨normal, spaced⟩))

end Sys2Proof.Machine
end

section
/-! SUPPORT. The laws of Node Control and of the Protection Monitor in parts, and what the shared work keeps of them (R44, R49
to R53, R58, R115, R163). -/

namespace Sys2Proof.Machine

/-! ## The Protection Monitor's law in parts -/

/-- A clean-run timer runs for slots with a retry count alone: what a pass needs to put the timers right (R52). -/
def State.runsCounted (s : State) : Prop :=
  ∀ k, (s.pm.slots.get k).cleanRun ≠ .stopped → 0 < (s.pm.slots.get k).retry

/-- The clean-run timer runs exactly for a participating slot with a retry count (R52). -/
def State.runsStand (s : State) : Prop :=
  ∀ k, (s.pm.slots.get k).cleanRun ≠ .stopped ↔ 0 < (s.pm.slots.get k).retry ∧ s.participates k = true

/-- The parts of the law that speak of one slot's trip state, hold-off timer and counts (R44, R49, R51, R53, R58). -/
structure State.slotSound (s : State) (k : Slot) : Prop where
  holdOff : (s.pm.slots.get k).holdOff ≠ .stopped ↔ (s.ca.slots.get k).trip = .tripped
  filter : (s.ca.slots.get k).trip ≠ .clear → (s.pm.slots.get k).filter = 0
  bounds : ∀ g ∈ s.nc.setting, (s.pm.slots.get k).filter < g.tripFilter ∧ (s.pm.slots.get k).retry ≤ g.maxRetries ∧
    ((s.ca.slots.get k).trip = .tripped → (s.pm.slots.get k).retry < g.maxRetries)
  untested : s.untested →
    (s.ca.slots.get k).trip = .clear ∧ (s.pm.slots.get k).filter = 0 ∧ (s.pm.slots.get k).retry = 0

/-- The parts of the law that speak of the antenna (R44, R56, R58). -/
structure State.antennaSound (s : State) : Prop where
  latch : s.pm.antLatch = true → s.pm.antFilter = 0
  bound : ∀ g ∈ s.nc.setting, s.pm.antFilter < g.tripFilter
  untested : s.untested → s.pm.antFilter = 0 ∧ s.pm.antLatch = false

/-- The bounds of the image held are those of R44. -/
def State.limitsSound (s : State) : Prop := ∀ g ∈ s.nc.setting, 1 ≤ g.tripFilter ∧ g.maxRetries ≤ 7

theorem protectionLaw_iff (s : State) :
    ProtectionLaw s ↔ s.runsStand ∧ (∀ k, s.slotSound k) ∧ s.antennaSound ∧ s.limitsSound := by
  constructor
  · rintro ⟨slots, latch, bounds, untested⟩
    refine ⟨fun k => (slots k).2.1, fun k => ⟨(slots k).1, (slots k).2.2, fun g held => ?_, fun h => ?_⟩,
      ⟨latch, fun g held => ?_, fun h => ?_⟩, fun g held => ?_⟩
    · obtain ⟨-, -, -, counts⟩ := bounds g held
      exact counts k
    · obtain ⟨-, -, clear⟩ := untested h
      exact clear k
    · obtain ⟨-, -, bound, -⟩ := bounds g held
      exact bound
    · obtain ⟨filter, off, -⟩ := untested h
      exact ⟨filter, off⟩
    · obtain ⟨low, high, -⟩ := bounds g held
      exact ⟨low, high⟩
  · rintro ⟨runs, slots, antenna, limits⟩
    refine ⟨fun k => ⟨(slots k).holdOff, runs k, (slots k).filter⟩, antenna.latch, fun g held => ?_, fun h => ?_⟩
    · obtain ⟨low, high⟩ := limits g held
      exact ⟨low, high, antenna.bound g held, fun k => (slots k).bounds g held⟩
    · obtain ⟨filter, off⟩ := antenna.untested h
      exact ⟨filter, off, fun k => (slots k).untested h⟩

/-- Trip state, hold-off timer, filter and retry count of a slot (R44). -/
def State.counts (s : State) (k : Slot) : TripState × Timer × Nat × Nat :=
  ((s.ca.slots.get k).trip, (s.pm.slots.get k).holdOff, (s.pm.slots.get k).filter, (s.pm.slots.get k).retry)

section
variable {s t u : State} {k : Slot}

theorem counts_iff : t.counts k = s.counts k ↔
    (t.ca.slots.get k).trip = (s.ca.slots.get k).trip ∧
    (t.pm.slots.get k).holdOff = (s.pm.slots.get k).holdOff ∧
    (t.pm.slots.get k).filter = (s.pm.slots.get k).filter ∧ (t.pm.slots.get k).retry = (s.pm.slots.get k).retry := by
  simp only [State.counts, Prod.mk.injEq]

theorem Apart.counts {a : State} (h : Apart a k s t) : t.counts k = s.counts k :=
  counts_iff.mpr ⟨h.trip, h.holdOff, h.filter, h.retry⟩

theorem slotSound_of_counts (counts : t.counts k = s.counts k) (setting : t.nc.setting = s.nc.setting)
    (untested : t.untested → s.untested) (h : s.slotSound k) : t.slotSound k := by
  obtain ⟨trip, holdOff, filter, retry⟩ := counts_iff.mp counts
  refine ⟨?_, ?_, ?_, fun idle => ?_⟩
  · rw [trip, holdOff]
    exact h.holdOff
  · rw [trip, filter]
    exact h.filter
  · rw [trip, filter, retry, setting]
    exact h.bounds
  · rw [trip, filter, retry]
    exact h.untested (untested idle)

theorem antennaSound_of_same (antenna : t.antenna = s.antenna) (setting : t.nc.setting = s.nc.setting)
    (untested : t.untested → s.untested) (h : s.antennaSound) : t.antennaSound := by
  obtain ⟨filter, latch⟩ := Prod.mk.inj antenna
  refine ⟨?_, ?_, fun idle => ?_⟩
  · rw [filter, latch]
    exact h.latch
  · rw [filter, setting]
    exact h.bound
  · rw [filter, latch]
    exact h.untested (untested idle)

/-- A running clean-run timer goes with a retry count, in particular where the timers stand. -/
theorem State.runsStand.counted (h : s.runsStand) : s.runsCounted := fun k runs => ((h k).mp runs).1

/-! ## The pass puts the clean-run timers right -/

theorem cleanRunAfter_runs (counted : s.runsCounted) (k : Slot) :
    s.cleanRunAfter k ≠ .stopped ↔ 0 < (s.pm.slots.get k).retry ∧ s.participates k = true := by
  unfold State.cleanRunAfter
  by_cases takes : s.participates k = true
  · by_cases starts : 0 < (s.pm.slots.get k).retry ∧ (s.pm.slots.get k).cleanRun = .stopped
    · rw [if_pos takes, if_pos starts]
      exact ⟨fun _ => ⟨starts.1, takes⟩, fun _ => nofun⟩
    · rw [if_pos takes, if_neg starts]
      exact ⟨fun runs => ⟨counted k runs, takes⟩, fun ⟨retry, _⟩ stopped => starts ⟨retry, stopped⟩⟩
  · rw [if_neg takes]
    exact ⟨fun runs => absurd rfl runs, fun ⟨_, taking⟩ => absurd taking takes⟩

theorem pass_runs (counted : s.runsCounted) : (pass s).runsStand := fun k => by
  rw [pass_participates, pass_guard]
  exact cleanRunAfter_runs counted k

theorem evaluateOff_counted (h : s.runsCounted) : (evaluateOff s).runsCounted := by
  unfold State.runsCounted at h ⊢
  rwa [evaluateOff_pm]

theorem reallot_runs (counted : s.runsCounted) : (pass (evaluateOff s)).runsStand := pass_runs (evaluateOff_counted counted)

theorem runsStand_of_same (guard : ∀ k, (t.pm.slots.get k).cleanRun = (s.pm.slots.get k).cleanRun ∧
      (t.pm.slots.get k).retry = (s.pm.slots.get k).retry)
    (takes : ∀ k, t.participates k = s.participates k) (h : s.runsStand) : t.runsStand := fun k => by
  obtain ⟨cleanRun, retry⟩ := guard k
  rw [cleanRun, retry, takes]
  exact h k

theorem runsCounted_of_same (guard : ∀ k, (t.pm.slots.get k).cleanRun = (s.pm.slots.get k).cleanRun ∧
      (t.pm.slots.get k).retry = (s.pm.slots.get k).retry) (h : s.runsCounted) : t.runsCounted := fun k => by
  obtain ⟨cleanRun, retry⟩ := guard k
  rw [cleanRun, retry]
  exact h k

theorem stateChanged_runs (counted : s.runsCounted) : (stateChanged s).runsStand := by
  refine runsStand_of_same (s := pass (evaluateOff s)) (fun k => ?_) (fun k => ?_) (reallot_runs counted)
  · rw [stateChanged, alarm_pm]
    exact ⟨rfl, rfl⟩
  · exact participates_eq k (by rw [stateChanged, alarm_ca]) (by rw [stateChanged, alarm_ca]) (alarm_nc _)
      (by rw [stateChanged, alarm_mi])

/-! ## Node Control's law -/

theorem untested_congr (state : t.nc.state = s.nc.state) (restart : t.nc.restart = s.nc.restart) :
    t.untested ↔ s.untested := by
  rw [State.untested, State.untested, State.configured, State.configured, State.onAir, State.onAir, state, restart]

theorem controlLaw_of_same (nc : t.nc = s.nc) (su : t.su = s.su) (inUse : t.lc.inUse = s.lc.inUse) (h : ControlLaw s) :
    ControlLaw t := by
  have configured : t.configured = s.configured := by rw [State.configured, State.onAir, nc]; rfl
  have restarting : t.restarting = s.restarting := by rw [State.restarting, nc]; rfl
  unfold ControlLaw
  rwa [nc, su, inUse, configured, restarting]

/-- A node that holds a state outside a soft restart reads no image (R157). -/
theorem noReading {n : NodeState} (h : ControlLaw s) (state : s.nc.state = some n) (running : s.nc.restart ≠ .inProgress) :
    s.nc.reading = none := by
  obtain ⟨-, -, reads, -⟩ := h
  cases reading : s.nc.reading with
  | none => rfl
  | some began =>
    rcases reads (by rw [reading]; rfl) with none | restarting
    · rw [none] at state
      cases state
    · exact absurd restarting running

/-- A configured node that enters another configured state, outside a soft restart: the law is kept where the join timer runs
in Joining alone and the Spread Unit works in Serving alone (R115, R161 to R163). -/
theorem controlLaw_entered {n : NodeState} {join : Timer} (h : ControlLaw s) (before : s.configured = true)
    (running : s.nc.restart ≠ .inProgress) (after : n ≠ .unconfigured)
    (nc : t.nc = { s.nc with state := some n, joinTimer := join }) (inUse : t.lc.inUse = s.lc.inUse)
    (joins : join ≠ .stopped → n = .joining)
    (spreads : t.su.round.isSome = true ∨ t.su.roundTimer ≠ .stopped → n = .serving) : ControlLaw t := by
  obtain ⟨m, state⟩ : ∃ m, s.nc.state = some m := by
    cases state : s.nc.state with
    | none => simp [State.configured, State.onAir, state] at before
    | some m => exact ⟨m, rfl⟩
  have reading := noReading h state running
  obtain ⟨-, -, -, held, uses, due⟩ := h
  have configured : t.configured = true := by
    cases n <;> simp_all [State.configured, State.onAir]
  have restarting : t.restarting = s.restarting := by rw [State.restarting, nc]; rfl
  unfold ControlLaw
  rw [configured, restarting, inUse, uses, nc, state, reading, held, before]
  exact ⟨fun runs => ⟨congrArg some (joins runs), running⟩, fun works => ⟨congrArg some (spreads works), running⟩, nofun, rfl,
    rfl, due⟩

/-! ## What work keeps of the laws -/

/-- Node Control's law is kept, and of the Protection Monitor's law what a pass needs. -/
structure Governed (s t : State) : Prop where
  control : ControlLaw s → ControlLaw t
  setting : t.nc.setting = s.nc.setting
  untested : t.untested ↔ s.untested
  counted : s.runsCounted → t.runsCounted

/-- And the clean-run timers stand. -/
structure Timed (s t : State) : Prop extends Governed s t where
  runs : s.runsStand → t.runsStand

/-- And trip states, hold-off timers and counts are as before. -/
structure Guarded (s t : State) : Prop extends Timed s t where
  counts : ∀ k, t.counts k = s.counts k
  antenna : t.antenna = s.antenna

theorem Governed.refl (s : State) : Governed s s := ⟨id, rfl, .rfl, id⟩

theorem Governed.trans (h : Governed s t) (h' : Governed t u) : Governed s u :=
  ⟨h'.control ∘ h.control, h'.setting.trans h.setting, h'.untested.trans h.untested, h'.counted ∘ h.counted⟩

theorem Timed.refl (s : State) : Timed s s := ⟨.refl s, id⟩

theorem Timed.trans (h : Timed s t) (h' : Timed t u) : Timed s u :=
  ⟨h.toGoverned.trans h'.toGoverned, h'.runs ∘ h.runs⟩

theorem Guarded.refl (s : State) : Guarded s s := ⟨.refl s, fun _ => rfl, rfl⟩

theorem Guarded.trans (h : Guarded s t) (h' : Guarded t u) : Guarded s u :=
  ⟨h.toTimed.trans h'.toTimed, fun k => (h'.counts k).trans (h.counts k), h'.antenna.trans h.antenna⟩

theorem Governed.limits (h : Governed s t) (law : s.limitsSound) : t.limitsSound := by
  unfold State.limitsSound
  rwa [h.setting]

/-- Work that keeps the timers keeps the law, if what it makes of the slots and of the antenna is sound. -/
theorem Timed.protection (h : Timed s t) (law : ProtectionLaw s) (slots : (∀ k, s.slotSound k) → ∀ k, t.slotSound k)
    (antenna : s.antennaSound → t.antennaSound) : ProtectionLaw t := by
  obtain ⟨runs, sound, antennaSound, limits⟩ := (protectionLaw_iff s).mp law
  exact (protectionLaw_iff t).mpr ⟨h.runs runs, slots sound, antenna antennaSound, h.limits limits⟩

theorem Guarded.protection (h : Guarded s t) (law : ProtectionLaw s) : ProtectionLaw t :=
  h.toTimed.protection law (fun sound k => slotSound_of_counts (h.counts k) h.setting h.untested.mp (sound k))
    (antennaSound_of_same h.antenna h.setting h.untested.mp)

/-- Work that leaves Node Control, the Spread Unit and whether the line is used. -/
theorem Governed.of_same (nc : t.nc = s.nc) (su : t.su = s.su) (inUse : t.lc.inUse = s.lc.inUse)
    (counted : s.runsCounted → t.runsCounted) : Governed s t :=
  ⟨controlLaw_of_same nc su inUse, by rw [nc], untested_congr (by rw [nc]) (by rw [nc]), counted⟩

/-- And which slots participate, and the retry counts with their timers. -/
theorem Timed.of_same (nc : t.nc = s.nc) (su : t.su = s.su) (inUse : t.lc.inUse = s.lc.inUse)
    (guard : ∀ k, (t.pm.slots.get k).cleanRun = (s.pm.slots.get k).cleanRun ∧
      (t.pm.slots.get k).retry = (s.pm.slots.get k).retry)
    (takes : ∀ k, t.participates k = s.participates k) : Timed s t :=
  ⟨.of_same nc su inUse (runsCounted_of_same guard), runsStand_of_same guard takes⟩

/-- And the trip states, with the Protection Monitor but for settle flags. -/
theorem Guarded.of_same (nc : t.nc = s.nc) (su : t.su = s.su) (inUse : t.lc.inUse = s.lc.inUse) (mute : t.mi.mute = s.mi.mute)
    (slot : ∀ k, (t.ca.slots.get k).trip = (s.ca.slots.get k).trip ∧
      (t.ca.slots.get k).enabled = (s.ca.slots.get k).enabled)
    (guard : ∀ k, t.pm.slots.get k = { s.pm.slots.get k with settle := (t.pm.slots.get k).settle })
    (antenna : t.antenna = s.antenna) : Guarded s t where
  toTimed := .of_same nc su inUse (fun k => by rw [guard k]; exact ⟨rfl, rfl⟩)
    fun k => participates_eq k (slot k).2 (slot k).1 nc mute
  counts k := counts_iff.mpr (by rw [guard k]; exact ⟨(slot k).1, rfl, rfl, rfl⟩)
  antenna := antenna

/-- Work on the line but for its use, on the log, the table, the Command Unit, the clock and the queue of commands. -/
theorem Guarded.of_blocks (nc : t.nc = s.nc) (su : t.su = s.su) (inUse : t.lc.inUse = s.lc.inUse) (mi : t.mi = s.mi)
    (ca : t.ca = s.ca) (pm : t.pm = s.pm) : Guarded s t :=
  .of_same nc su inUse (by rw [mi]) (fun k => by rw [ca]; exact ⟨rfl, rfl⟩) (fun k => by rw [pm]) (antenna_of_pm pm)

/-! ## The shared operations -/

theorem setLine_guarded (lc : Line) (inUse : lc.inUse = s.lc.inUse := by rfl) : Guarded s { s with lc := lc } :=
  .of_blocks rfl rfl inUse rfl rfl rfl

theorem raiseRecord_guarded (key : Key) (x : Option (Int × Int)) : Guarded s (raiseRecord key x s) :=
  .of_blocks rfl rfl rfl rfl rfl rfl

theorem clearRecord_guarded (key : Key) : Guarded s (clearRecord key s) := .of_blocks rfl rfl rfl rfl rfl rfl

theorem reach_guarded (due : Nat) : Guarded s (s.reach due) := .of_blocks rfl rfl rfl rfl rfl rfl

theorem alarm_guarded : Guarded s (alarm s) :=
  .of_blocks (alarm_nc s) (alarm_su s) (alarm_inUse s) (alarm_mi s) (alarm_ca s) (alarm_pm s)

theorem breakRequest_guarded : Guarded s (breakRequest s) :=
  .of_blocks (breakRequest_nc s) (breakRequest_su s) (breakRequest_inUse s) (breakRequest_mi s) (breakRequest_ca s)
    (breakRequest_pm s)

theorem evaluateOff_guarded : Guarded s (evaluateOff s) :=
  .of_same (evaluateOff_nc s) (evaluateOff_su s) (evaluateOff_inUse s) (by rw [evaluateOff_mi])
    (fun k => by rw [evaluateOff_slot]; exact ⟨rfl, rfl⟩) (fun k => by rw [evaluateOff_pm])
    (antenna_of_pm (evaluateOff_pm s))

theorem zeroTrims_guarded : Guarded s (zeroTrims s) :=
  .of_same rfl rfl rfl rfl (fun k => by rw [zeroTrims_slot]; exact ⟨rfl, rfl⟩) (fun _ => rfl) rfl

theorem pass_guarded : Guarded s (pass s) where
  toGoverned := .of_same (pass_nc s) (pass_su s) (by rw [pass_lc]) fun counted => (pass_runs counted).counted
  runs stand := pass_runs stand.counted
  counts _ := (pass_apart (a := s)).counts
  antenna := pass_antenna s

theorem reallot_guarded : Guarded s (pass (evaluateOff s)) := evaluateOff_guarded.trans pass_guarded

/-- After off flags and a pass the clean-run timers stand, whatever was done before, if the rest is kept. -/
theorem Governed.reallot (h : Governed s u) : Timed s (pass (evaluateOff u)) :=
  ⟨h.trans reallot_guarded.toGoverned, fun stand => reallot_runs (h.counted stand.counted)⟩

theorem stateChanged_guarded : Guarded s (stateChanged s) := reallot_guarded.trans alarm_guarded

/-- The entry of a configured node into a configured state, outside a soft restart, where the pass of the entry puts the
clean-run timers right. -/
theorem Guarded.of_entry {n : NodeState} {join : Timer} (before : s.configured = true)
    (running : s.nc.restart ≠ .inProgress) (after : n ≠ .unconfigured)
    (nc : t.nc = { s.nc with state := some n, joinTimer := join }) (inUse : t.lc.inUse = s.lc.inUse)
    (joins : join ≠ .stopped → n = .joining)
    (spreads : ControlLaw s → t.su.round.isSome = true ∨ t.su.roundTimer ≠ .stopped → n = .serving)
    (runs : s.runsCounted → t.runsStand) (counts : ∀ k, t.counts k = s.counts k) (antenna : t.antenna = s.antenna) :
    Guarded s t := by
  have tested (u : State) (configured : u.configured = true) (running : u.nc.restart ≠ .inProgress) : ¬ u.untested :=
    not_or.mpr ⟨by simp [configured], running⟩
  have configured : t.configured = true := by
    cases n <;> simp_all [State.configured, State.onAir]
  exact
    { control := fun law => controlLaw_entered law before running after nc inUse joins (spreads law)
      setting := by rw [nc]
      untested := iff_of_false (tested t configured (by rwa [nc])) (tested s before running)
      counted := fun counted => (runs counted).counted
      runs := fun stand => runs stand.counted
      counts := counts
      antenna := antenna }

theorem withdraw_guarded : Guarded s (withdraw s) := by
  by_cases stays : s.onAir = false ∨ s.nc.restart = .inProgress
  · rw [withdraw_stays stays]
    exact .refl s
  · simp only [not_or, Bool.not_eq_false] at stays
    obtain ⟨air, running⟩ := stays
    have counts (k : Slot) : (withdraw s).counts k = s.counts k := (withdraw_apart (a := s)).counts
    have antenna := withdraw_antenna s
    rw [withdraw_enters air running] at counts antenna ⊢
    refine .of_entry (by simp [State.configured, air]) running (by decide) (enterWithdrawn_nc s) (enterWithdrawn_inUse s)
      (fun runs => absurd rfl runs) (fun _ works => ?_)
      (fun counted => breakRequest_guarded.runs (stateChanged_runs (s := s.leavingAir) counted)) counts antenna
    rw [enterWithdrawn_su] at works
    rcases works with round | timer
    · cases round
    · exact absurd rfl timer

theorem raiseFault_guarded (key : Key) (x : Option (Int × Int)) : Guarded s (raiseFault key x s) :=
  (raiseRecord_guarded key x).trans (raiseFault_brings .refl .trans (fun _ => alarm_guarded) (fun _ => withdraw_guarded)
    (fun _ => breakRequest_guarded) key x s)

end

end Sys2Proof.Machine
end

section
/-! SUPPORT. What work on the line, on the Neighbour Table and on commands keeps of the laws of Node Control and of the
Protection Monitor (R44, R52, R115, R165). -/

namespace Sys2Proof.Machine

section
variable {s t u : State}

/-! ## Node Control's own fields -/

theorem untested_iff_restarting : s.untested ↔ s.configured = false ∨ s.restarting = true := by
  rw [State.untested, State.restarting, beq_iff_eq]

/-- Work on the control fields and on rounds that keeps Node Control's law, the state and the restart's interval. -/
theorem Guarded.of_control (control : ControlLaw s → ControlLaw t) (setting : t.nc.setting = s.nc.setting)
    (state : t.nc.state = s.nc.state) (restarting : t.restarting = s.restarting) (mi : t.mi = s.mi) (ca : t.ca = s.ca)
    (pm : t.pm = s.pm) : Guarded s t := by
  have onAir : t.onAir = s.onAir := by rw [State.onAir, State.onAir, state]
  have configured : t.configured = s.configured := by rw [State.configured, State.configured, onAir, state]
  have guard (k : Slot) : (t.pm.slots.get k).cleanRun = (s.pm.slots.get k).cleanRun ∧
      (t.pm.slots.get k).retry = (s.pm.slots.get k).retry := by rw [pm]; exact ⟨rfl, rfl⟩
  exact
    { control := control
      setting := setting
      untested := by rw [untested_iff_restarting, untested_iff_restarting, configured, restarting]
      counted := runsCounted_of_same guard
      runs := runsStand_of_same guard fun k => by
        rw [State.participates, State.participates, ca, onAir, restarting, mi]
      counts := fun k => by rw [State.counts, State.counts, ca, pm]
      antenna := antenna_of_pm pm }

/-- A restart condition outside the interval of a restart changes to another one, due where it is pending alone (R165). -/
theorem setRestart_guarded {r : Restart} {due : Bool} (before : s.nc.restart ≠ .inProgress) (after : r ≠ .inProgress)
    (pending : due = true → r = .pending) :
    Guarded s { s with nc := { s.nc with restart := r, restartDue := due } } := by
  have off (r : Restart) (running : r ≠ .inProgress) : (r == .inProgress) = false := beq_false_of_ne running
  refine .of_control (fun law => ?_) rfl rfl ((off r after).trans (off _ before).symm) rfl rfl rfl
  obtain ⟨join, round, reads, held, uses, -⟩ := law
  refine ⟨fun runs => ⟨(join runs).1, after⟩, fun works => ⟨(round works).1, after⟩,
    fun reading => .inl ((reads reading).resolve_right before), held, ?_, pending⟩
  have uses : s.lc.inUse = (s.nc.state.isSome && !(s.nc.restart == .inProgress)) := uses
  rw [off _ before] at uses
  show s.lc.inUse = (s.nc.state.isSome && !(r == .inProgress))
  rw [off r after]
  exact uses

theorem restartReplyGone_guarded : Guarded s (restartReplyGone s) := by
  unfold restartReplyGone
  split_ifs with pending
  · have running : s.nc.restart ≠ .inProgress := by rw [pending]; nofun
    exact setRestart_guarded running running fun _ => pending
  · exact .refl s

/-! ## The line -/

theorem setMarker_inUse (lc : Line) : lc.setMarker.inUse = lc.inUse := by
  unfold Line.setMarker
  split_ifs <;> rfl

theorem takeFollowUp_inUse (lc : Line) : lc.takeFollowUp.inUse = lc.inUse := by
  unfold Line.takeFollowUp
  split_ifs <;> rfl

theorem takeFollowUp_guarded : Guarded s (takeFollowUp s) := setLine_guarded _ (takeFollowUp_inUse s.lc)

theorem setPhase_guarded (phase : TxPhase) : Guarded s (setPhase phase s) := setLine_guarded _

theorem countIdle_guarded (n : Nat) : Guarded s (countIdle n s) := setLine_guarded _

theorem frameEnds_guarded (hold : Bool) : Guarded s (frameEnds hold s) := setLine_guarded _

theorem driveBits_guarded (ack hold : Bool) : Guarded s (driveBits ack hold s) := setLine_guarded _

theorem setMode_guarded (mode : LineMode) : Guarded s (setMode mode s) := setLine_guarded _

theorem startCoolDown_guarded (n : Nat) : Guarded s (startCoolDown n s) := setLine_guarded _

theorem dropHead_guarded : Guarded s (dropHead s) := setLine_guarded _

theorem reportLeft_guarded (heard : Bool) (e : TxEntry) : Guarded s (reportLeft heard s e) := by
  cases e with
  | marker urgent => exact .refl s
  | reply dest payload restart =>
    unfold reportLeft
    dsimp only
    split_ifs
    exacts [restartReplyGone_guarded, .refl s]
  | stream dest payload final =>
    exact .of_blocks (streamFrameEnded_nc s final heard) (streamFrameEnded_su s final heard)
      (by rw [reportLeft, streamFrameEnded_lc]) (streamFrameEnded_mi s final heard) (streamFrameEnded_ca s final heard)
      (streamFrameEnded_pm s final heard)

theorem removeAttempted_guarded (k : EntryKind) (heard : Bool) : Guarded s (removeAttempted k heard s) := by
  unfold removeAttempted
  split
  · exact .refl s
  · exact (setLine_guarded _).trans (reportLeft_guarded _ _)

theorem emptyForListenOnly_guarded : Guarded s (emptyForListenOnly s) := by
  have emptied (u : State) (cu : Commands) (lc : Line) (inUse : lc.inUse = u.lc.inUse) :
      Guarded u { u with lc := lc, cu := cu } := .of_blocks rfl rfl inUse rfl rfl rfl
  unfold emptyForListenOnly
  split_ifs
  · exact restartReplyGone_guarded.trans (emptied _ _ _ rfl)
  · exact emptied s _ _ rfl

/-- Listen-only entered with a fault raised: the queue emptied, then the cool-down (R71, R73). -/
theorem listenOnly_guarded (key : Key) (n : Nat) :
    Guarded s (startCoolDown n (emptyForListenOnly (raiseFault key none (setMode .listenOnly s)))) :=
  (((setMode_guarded _).trans (raiseFault_guarded key none)).trans emptyForListenOnly_guarded).trans
    (startCoolDown_guarded n)

theorem probeFailed_guarded : Guarded s (probeFailed s) :=
  (((setMode_guarded _).trans (startCoolDown_guarded _)).trans (raiseFault_guarded _ none)).trans emptyForListenOnly_guarded

theorem duplicateAddress_guarded : Guarded s (duplicateAddress s) := by
  unfold duplicateAddress
  split
  · exact listenOnly_guarded _ _
  · exact (((setMode_guarded _).trans emptyForListenOnly_guarded).trans (startCoolDown_guarded _)).trans
      (raiseFault_guarded _ none)
  · exact raiseFault_guarded _ none

theorem recordBeacon_guarded (heard : Bool) : Guarded s (recordBeacon heard s) := by
  unfold recordBeacon
  dsimp only
  split_ifs
  · exact (setLine_guarded _).trans (clearRecord_guarded _)
  · exact (setLine_guarded _).trans (raiseFault_guarded _ none)
  · exact setLine_guarded _

theorem probeSucceeded_guarded : Guarded s (probeSucceeded s) :=
  ((setLine_guarded _).trans (clearRecord_guarded _)).trans (clearRecord_guarded _)

theorem settle_guarded (a : Attempt) (queued : Bool) : Guarded s (settle a queued s) := by
  have removed (u : State) : Guarded u (if queued then removeAttempted a.owner false u else u) := by
    split_ifs
    exacts [removeAttempted_guarded _ _, .refl u]
  have mode (u : State) : Guarded u
      (if a.probe && u.lc.mode == .probing then probeFailed u
      else if u.lc.mode == .normal && decide (Config.errorLimit ≤ u.lc.txErrors) then enterListenOnly u
      else u) := by
    split_ifs
    exacts [probeFailed_guarded, listenOnly_guarded _ _, .refl u]
  have counted (u : State) : Guarded u (countError u) := setLine_guarded _
  unfold settle
  dsimp only
  split
  · exact (setPhase_guarded _).trans takeFollowUp_guarded
  · exact ((((setPhase_guarded _).trans (counted _)).trans (removed _)).trans (mode _)).trans takeFollowUp_guarded

/-! ## Frames received -/

theorem appendOutcome_guarded (o : LineOutcome) : Guarded s (appendOutcome o s) := by
  unfold appendOutcome
  dsimp only
  split_ifs
  · exact (setLine_guarded _).trans (raiseFault_guarded _ none)
  · exact (setLine_guarded _).trans (clearRecord_guarded _)
  · exact setLine_guarded _

theorem offer_guarded (f : Frame) : Guarded s (offer f s) := by
  unfold offer
  split_ifs
  exacts [setLine_guarded _, (raiseFault_guarded _ none).trans (clearRecord_guarded _), .refl s]

theorem checkTwin_guarded (f : Frame) : Guarded s (checkTwin f s) := by
  unfold checkTwin
  split_ifs
  exacts [duplicateAddress_guarded, .refl s]

theorem closeFrame_guarded : Guarded s (closeFrame s) := by
  unfold closeFrame
  split
  case h_3 => exact setPhase_guarded _
  all_goals exact .refl s

theorem takeFrame_guarded (f : Frame) (noisy othersHold : Bool) : Guarded s (takeFrame f noisy othersHold s) :=
  (((appendOutcome_guarded _).trans (checkTwin_guarded f)).trans (offer_guarded f)).trans
    ((driveBits_guarded _ _).trans (frameEnds_guarded _))

theorem takeBadFrame_guarded : Guarded s (takeBadFrame s) :=
  (appendOutcome_guarded _).trans ((driveBits_guarded _ _).trans (frameEnds_guarded _))

theorem takeRest_guarded (f : Frame) (othersHold : Bool) : Guarded s (takeRest f othersHold s) := by
  have ended (u : State) : Guarded u (frameEnds othersHold (driveBits false false u)) :=
    (driveBits_guarded _ _).trans (frameEnds_guarded _)
  unfold takeRest
  dsimp only
  split_ifs
  · exact (duplicateAddress_guarded.trans (offer_guarded f)).trans (ended _)
  · exact ended s

theorem receiveFrame_guarded (line : List Sample) (othersHold : Bool) : Guarded s (receiveFrame line othersHold s) := by
  unfold receiveFrame
  split
  exacts [.refl s, .refl s, takeBadFrame_guarded, takeFrame_guarded _ _ _]

theorem receiveRest_guarded (line : List Sample) (othersHold : Bool) : Guarded s (receiveRest line othersHold s) := by
  unfold receiveRest
  split
  · exact .refl s
  · exact .refl s
  · exact ((driveBits_guarded _ _).trans (frameEnds_guarded _)).trans closeFrame_guarded
  · exact (takeRest_guarded _ _).trans closeFrame_guarded

theorem applyBeacon_guarded (address : Nat) (b : BeaconContent) : Guarded s (applyBeacon address b s) :=
  .of_blocks (applyBeacon_nc s address b) (applyBeacon_su s address b) (by rw [applyBeacon_lc]) (applyBeacon_mi s address b)
    (applyBeacon_ca s address b) (applyBeacon_pm s address b)

/-! ## Commands -/

theorem setCommands_guarded (cu : Commands) : Guarded s { s with cu := cu } := .of_blocks rfl rfl rfl rfl rfl rfl

theorem answerAckFaults_guarded (args : List Byte) : Guarded s (answerAckFaults args s).state := by
  unfold answerAckFaults
  split_ifs
  · exact .refl s
  · rw [accept_state]
    exact .of_blocks rfl rfl rfl rfl rfl rfl

theorem answerRestart_guarded : Guarded s (answerRestart s).state := by
  unfold answerRestart
  split_ifs with _ idle
  · exact setRestart_guarded (by rw [idle]; nofun) nofun nofun
  · exact .refl s
  · exact .refl s

theorem answerDump_guarded (f : Frame) : Guarded s (answerDump f s).state := by
  unfold answerDump
  dsimp only
  split_ifs <;> exact .refl s

theorem offerReply_guarded (f : Frame) (a : Answer) : Guarded a.state (offerReply f a) := by
  unfold offerReply
  dsimp only
  split_ifs
  exacts [restartReplyGone_guarded, .refl _, setCommands_guarded _]

end

end Sys2Proof.Machine
end

section
/-! SUPPORT. The events of the line, of the timers and of rounds keep the laws of Node Control and of the Protection Monitor:
they leave trip states, hold-off timers and counts (R44, R52, R115). -/

namespace Sys2Proof.Machine

section
variable {s t u : State}

theorem guarded_of_unlessHeld (h : unlessHeld s u = .next t) (k : Guarded s u) : Guarded s t := by
  rcases unlessHeld_next s u with hn | hn <;> rw [hn] at h <;> obtain rfl := Host.Outcome.next.inj h
  exacts [.refl s, k]

/-! ## The line -/

theorem peerFrameReceived_guarded {line : Arrival} {hold : Bool} (h : exec (.peerFrameReceived line hold) s = .next t) :
    Guarded s t := by
  refine guarded_of_unlessHeld h ?_
  split_ifs
  exacts [receiveRest_guarded _ _, receiveFrame_guarded _ _, countIdle_guarded _, .refl s, .refl s]

theorem transmissionStart_guarded {n : Nat} (h : exec (.transmissionStart n) s = .next t) : Guarded s t := by
  have counted : Guarded s (countIdle n s) := countIdle_guarded n
  refine guarded_of_unlessHeld h ?_
  dsimp only
  split_ifs
  · exact counted.trans (setLine_guarded _)
  · split
    exacts [counted, counted.trans (setLine_guarded _)]
  · exact counted
  · exact .refl s

theorem arbitrationLost_guarded {position : Nat} {x : Sample} (h : exec (.arbitrationLost position x) s = .next t) :
    Guarded s t := by
  refine guarded_of_unlessHeld h ?_
  split
  · exact .refl s
  · split_ifs
    exacts [(setPhase_guarded _).trans takeFollowUp_guarded, .refl s]

theorem bitError_guarded {position : Nat} {x : Sample} {ack hold : Bool}
    (h : exec (.bitError position x ack hold) s = .next t) : Guarded s t := by
  have ended (held : Bool) (phase : TxPhase) : Guarded s (setPhase phase (frameEnds held s)) :=
    (frameEnds_guarded _).trans (setPhase_guarded _)
  refine guarded_of_unlessHeld h ?_
  split
  · exact .refl s
  · dsimp only
    split_ifs
    exacts [(ended _ _).trans (recordBeacon_guarded _), ended _ _, ended _ _, .refl s]

theorem transmitFrameEnd_guarded {ack hold : Bool} (h : exec (.transmitFrameEnd ack hold) s = .next t) :
    Guarded s t := by
  have counted (u : State) : Guarded u (countClean u) := setLine_guarded _
  refine guarded_of_unlessHeld h ?_
  split
  · exact .refl s
  · exact .refl s
  · exact .refl s
  · rename_i a _
    have removed : Guarded s (removeAttempted a.owner ack (setPhase .quiet (countClean (frameEnds hold s)))) :=
      (((frameEnds_guarded _).trans (counted _)).trans (setPhase_guarded _)).trans (removeAttempted_guarded _ _)
    dsimp only
    split_ifs
    exacts [((removed.trans probeSucceeded_guarded).trans (recordBeacon_guarded _)).trans takeFollowUp_guarded,
      (removed.trans (recordBeacon_guarded _)).trans takeFollowUp_guarded, removed]

theorem bitErrorSettle_guarded {n : Nat} (h : exec (.bitErrorSettle n) s = .next t) : Guarded s t := by
  have counted : Guarded s (countIdle n s) := countIdle_guarded n
  refine guarded_of_unlessHeld h ?_
  split
  · exact .refl s
  · exact .refl s
  · exact .refl s
  · dsimp only
    split_ifs
    exacts [counted.trans (settle_guarded _ _), counted]

theorem breakDetected_guarded (h : exec .breakDetected s = .next t) : Guarded s t := by
  refine guarded_of_unlessHeld h ?_
  dsimp only
  split_ifs
  exacts [setLine_guarded _ (setMarker_inUse _), setLine_guarded _, .refl s]

theorem breakEnd_guarded (h : exec .breakEnd s = .next t) : Guarded s t := by
  refine guarded_of_unlessHeld h ?_
  split_ifs
  exacts [setLine_guarded _, .refl s]

theorem beaconTimerExpiry_guarded (h : exec .beaconTimerExpiry s = .next t) : Guarded s t := by
  refine guarded_of_unlessHeld h ?_
  split
  exacts [.refl s, .of_blocks rfl rfl (setMarker_inUse _) rfl rfl rfl]

theorem coolDownExpiry_guarded (h : exec .coolDownExpiry s = .next t) : Guarded s t := by
  refine guarded_of_unlessHeld h ?_
  split
  exacts [.refl s, .of_blocks rfl rfl (setMarker_inUse _) rfl rfl rfl]

/-! ## The Frame Processor and the Neighbour Table -/

theorem beaconApply_guarded (h : exec .beaconApply s = .next t) : Guarded s t := by
  refine guarded_of_unlessHeld h ?_
  split
  · exact .refl s
  · split_ifs
    exacts [(applyBeacon_guarded _ _).trans dropHead_guarded, dropHead_guarded, .refl s]

theorem frameDrop_guarded (h : exec .frameDrop s = .next t) : Guarded s t := by
  refine guarded_of_unlessHeld h ?_
  split
  · exact .refl s
  · split_ifs
    exacts [.refl s, dropHead_guarded]

theorem setTable_guarded (now : Nat) (nt : List Entry) : Guarded s { s with now := now, nt := nt } :=
  .of_blocks rfl rfl rfl rfl rfl rfl

theorem clearNbl_guarded (e : Entry) : Guarded s (clearNbl e s) := by
  unfold clearNbl
  split_ifs
  exacts [clearRecord_guarded _, .refl s]

theorem staleDeadline_guarded {a : Nat} (h : exec (.staleDeadline a) s = .next t) : Guarded s t := by
  refine guarded_of_unlessHeld h ?_
  split
  · exact .refl s
  · split_ifs
    exacts [setTable_guarded _ _, .refl s]

theorem silentDeadline_guarded {a : Nat} (h : exec (.silentDeadline a) s = .next t) : Guarded s t := by
  refine guarded_of_unlessHeld h ?_
  split
  · exact .refl s
  · split_ifs
    exacts [.refl s, (setTable_guarded _ _).trans (raiseFault_guarded _ none)]

theorem goneDeadline_guarded {a : Nat} (h : exec (.goneDeadline a) s = .next t) : Guarded s t := by
  refine guarded_of_unlessHeld h ?_
  split
  · exact .refl s
  · dsimp only
    split_ifs
    exacts [setTable_guarded _ _, (setTable_guarded _ _).trans (clearNbl_guarded _), .refl s]

/-! ## Replies, streams and the level port -/

theorem replyEnqueue_guarded (h : exec .replyEnqueue s = .next t) : Guarded s t := by
  refine guarded_of_unlessHeld h ?_
  split
  · exact .refl s
  · split_ifs
    exacts [.of_blocks rfl rfl rfl rfl rfl rfl, .refl s]

theorem streamFrameBuild_guarded (h : exec .streamFrameBuild s = .next t) : Guarded s t := by
  refine guarded_of_unlessHeld h ?_
  split
  · exact .refl s
  · split_ifs
    exacts [.of_blocks rfl rfl rfl rfl rfl rfl, .refl s]

theorem levelFrameSent_guarded (h : exec .levelFrameSent s = .next t) : Guarded s t :=
  guarded_of_unlessHeld h (.of_same rfl rfl rfl rfl (fun _ => ⟨rfl, rfl⟩) (fun _ => rfl) rfl)

/-! ## Measurement and rounds -/

theorem sampleTimerExpiry_guarded (h : exec .sampleTimerExpiry s = .next t) : Guarded s t := by
  have stale (u : State) : Guarded u
      { u with ca := { u.ca with slots := u.ca.slots.map fun r => { r with stale := true } } } :=
    .of_same rfl rfl rfl rfl (fun k => by simp) (fun _ => rfl) rfl
  have expired (u : State) : Guarded u { u with mi := { u.mi with sampleTimer := .expired } } :=
    .of_same rfl rfl rfl rfl (fun _ => ⟨rfl, rfl⟩) (fun _ => rfl) rfl
  refine guarded_of_unlessHeld h ?_
  split
  · exact .refl s
  · exact .refl s
  · exact (((reach_guarded _).trans (stale _)).trans (raiseFault_guarded _ none)).trans (expired _)

/-- A round begins where the round timer ran: the node is then Serving, outside a soft restart (R115, R116). -/
theorem roundTimerExpiry_guarded (h : exec .roundTimerExpiry s = .next t) : Guarded s t := by
  refine guarded_of_unlessHeld h ?_
  split
  · rename_i runs _
    refine .of_control (fun law => ?_) rfl rfl rfl rfl rfl rfl
    obtain ⟨join, round, rest⟩ := law
    exact ⟨join, fun _ => round (.inr (by rw [runs]; nofun)), rest⟩
  · exact .refl s

theorem commit_guarded (r : Round) : Guarded s (commit r s) := by
  have committed : Guarded s
      { s with ca := { s.ca with slots := .tabulate fun k => (s.ca.slots.get k).commit (r.decided.get k) } } :=
    .of_same rfl rfl rfl rfl (fun k => by
      rw [Six.get_tabulate]
      unfold SlotRecord.commit
      split_ifs <;> exact ⟨rfl, rfl⟩) (fun _ => rfl) rfl
  have ended (u : State) : Guarded u { u with su := { u.su with round := none } } := by
    refine .of_control (fun law => ?_) rfl rfl rfl rfl rfl rfl
    obtain ⟨join, round, rest⟩ := law
    exact ⟨join, fun works => round (works.imp_left nofun), rest⟩
  have passed := committed.trans pass_guarded
  unfold commit
  dsimp only
  generalize pass _ = v at passed ⊢
  exact passed.trans (ended v)

theorem roundCommit_guarded (h : exec .roundCommit s = .next t) : Guarded s t := by
  refine guarded_of_unlessHeld h ?_
  split
  exacts [.refl s, commit_guarded _]

end

end Sys2Proof.Machine
end

section
/-! SUPPORT. What a measurement frame makes of the Protection Monitor: its tests keep the clean-run timers right, and leave
every slot and the antenna as the law has them (R44 to R53, R55, R56, R58). -/

namespace Sys2Proof.Machine

section
variable {a s t : State} {k : Slot} {g : Setting} {m : MeasFrame}

/-! ## The parts of a trip -/

/-- A slot taken off Clear no longer participates, and its clean-run timer is stopped (R52). -/
theorem slotTripped_timed {x : TripState} (leaves : x ≠ .clear) : Timed s (slotTripped k x s) := by
  have guard (j : Slot) : ((slotTripped k x s).pm.slots.get j).retry = (s.pm.slots.get j).retry ∧
      ((slotTripped k x s).pm.slots.get j).cleanRun = if j = k then .stopped else (s.pm.slots.get j).cleanRun := by
    rw [slotTripped, Six.get_modify]
    split_ifs <;> exact ⟨rfl, rfl⟩
  refine ⟨.of_same rfl rfl rfl fun counted j => ?_, fun stand j => ?_⟩
  · obtain ⟨retry, cleanRun⟩ := guard j
    rw [retry, cleanRun]
    split_ifs
    exacts [fun runs => absurd rfl runs, counted j]
  · obtain ⟨retry, cleanRun⟩ := guard j
    rw [retry, cleanRun]
    by_cases same : j = k
    · subst same
      have out : (slotTripped j x s).participates j = false := by
        simp [State.participates, slotTripped, leaves]
      simp [out]
    · have slot : (slotTripped k x s).ca.slots.get j = s.ca.slots.get j := by rw [slotTripped, Six.get_modify, if_neg same]
      have takes : (slotTripped k x s).participates j = s.participates j :=
        participates_eq j (congrArg SlotRecord.enabled slot) (congrArg SlotRecord.trip slot) rfl rfl
      rw [if_neg same, takes]
      exact stand j

theorem silenceLevel_guarded : Guarded s (silenceLevel k s) := by
  unfold silenceLevel
  split_ifs
  · exact .refl s
  · exact .of_same rfl rfl rfl rfl (fun j => by
      show ((s.ca.sendLevel k 0).slots.get j).trip = _ ∧ ((s.ca.sendLevel k 0).slots.get j).enabled = _
      rw [sendLevel_slot_frame]
      exact ⟨rfl, rfl⟩) (fun _ => rfl) rfl

theorem settleMonitor_guarded : Guarded s (settleMonitor k s) :=
  .of_same rfl rfl rfl rfl (fun _ => ⟨rfl, rfl⟩) (fun j => by
    rw [settleMonitor, Six.get_modify]
    split_ifs <;> rfl) rfl

theorem tripActions_guarded : Guarded s (tripActions k s) := by
  rw [tripActions_eq]
  exact ((evaluateOff_guarded.trans silenceLevel_guarded).trans settleMonitor_guarded).trans pass_guarded

/-- A change of the guards that keeps the clean-run timers and the retry counts. -/
theorem setGuards_timed {pm : Protection} (guard : ∀ j, (pm.slots.get j).cleanRun = (s.pm.slots.get j).cleanRun ∧
    (pm.slots.get j).retry = (s.pm.slots.get j).retry) : Timed s { s with pm := pm } :=
  .of_same rfl rfl rfl guard fun _ => rfl

theorem setFilter_timed (n : Nat) : Timed s (setFilter k n s) :=
  setGuards_timed fun j => by
    rw [Six.get_modify]
    split_ifs <;> exact ⟨rfl, rfl⟩

theorem startHoldOff_timed (length : Nat) : Timed s (startHoldOff k length s) :=
  setGuards_timed fun j => by
    rw [Six.get_modify]
    split_ifs <;> exact ⟨rfl, rfl⟩

theorem tripRaised_timed (forward : Nat) {x : TripState} (kind : Kind) (leaves : x ≠ .clear) :
    Timed s (tripRaised g a forward k x kind s) :=
  ((slotTripped_timed leaves).trans tripActions_guarded.toTimed).trans (raiseFault_guarded _ _).toTimed

theorem tripSlot_timed (forward : Nat) : Timed s (tripSlot g a forward k s) := by
  rcases tripSlot_cases g a forward k s with tripped | latched
  · have raised : Timed s (tripRaised g a forward k .tripped .ovd s) := tripRaised_timed forward .ovd (by decide)
    rw [tripped]
    exact raised.trans (startHoldOff_timed _)
  · rw [latched]
    exact tripRaised_timed forward .ovl (by decide)

/-! ## The tests, the intake and the temperature -/

theorem testSlot_timed (g : Setting) (a : State) (m : MeasFrame) (k : Slot) : Timed s (testSlot g a m s k) := by
  unfold testSlot
  dsimp only
  split_ifs
  exacts [tripSlot_timed _, setFilter_timed _, setFilter_timed _, setFilter_timed _]

theorem testSlots_timed (g : Setting) (a : State) (m : MeasFrame) (l : List Slot) :
    Timed s (l.foldl (testSlot g a m) s) := by
  induction l generalizing s with
  | nil => exact .refl s
  | cons k l ih => exact (testSlot_timed g a m k).trans ih

theorem testAntenna_timed (g : Setting) (a : State) (m : MeasFrame) : Timed s (testAntenna g a m s) := by
  have same (pm : Protection) (slots : pm.slots = s.pm.slots) : Timed s { s with pm := pm } :=
    setGuards_timed fun j => by rw [slots]; exact ⟨rfl, rfl⟩
  unfold testAntenna latchAntenna
  split_ifs
  · exact (same { s.pm with antLatch := true, antFilter := 0 } rfl).trans (raiseFault_guarded _ _).toTimed
  · exact same _ rfl
  · exact same _ rfl
  · exact same _ rfl

theorem clearSettled_timed (a : State) : Timed s (clearSettled a s) :=
  setGuards_timed fun j => by
    rw [Six.get_tabulate]
    exact ⟨rfl, rfl⟩

theorem clearFilters_timed : Timed s (clearFilters s) :=
  setGuards_timed fun j => by
    rw [Six.get_map]
    exact ⟨rfl, rfl⟩

theorem protect_timed (m : MeasFrame) : Timed s (protect m s) := by
  unfold protect
  dsimp only
  split
  · exact clearFilters_timed.trans (clearSettled_timed s)
  · exact ((testSlots_timed _ s m _).trans (testAntenna_timed _ s m)).trans (clearSettled_timed s)

theorem thermal_timed (g : Setting) (x : Int) : Timed s (thermal g x s) := by
  have derate (before after : Nat) (u : State) : Guarded u (reportDerate g before after x u) := by
    unfold reportDerate
    split_ifs
    exacts [raiseFault_guarded _ _, clearRecord_guarded _, .refl u]
  have mute (before after : Bool) (u : State) : Guarded u (reportMute g before after x u) := by
    unfold reportMute
    split_ifs
    exacts [raiseFault_guarded _ _, clearRecord_guarded _, .refl u]
  have decided (d : Nat) (muted : Bool) : Governed s (s.derated d muted) := .of_same rfl rfl rfl id
  by_cases same : nextStep g s.mi.derate x = s.mi.derate ∧ nextMute g s.mi.mute x = s.mi.mute
  · rw [thermal_same same.1 same.2]
    exact .refl s
  · rw [thermal_changed same]
    exact ((decided _ _).trans ((derate _ _ _).trans (mute _ _ _)).toGoverned).reallot

theorem arrival_guarded (m : MeasFrame) : Guarded s (arrival m s) := by
  have alike := arrival_alike m s
  refine .of_same (arrival_nc m s) ?_ ?_ alike.mute (fun k => ?_) (fun k => ?_) (antenna_of_pm (arrival_pm m s))
  · rw [arrival, loadWork_su, refreshSampleTimer_su]
  · rw [arrival_lc]
  · rw [alike.slots k]
    exact ⟨rfl, rfl⟩
  · rw [arrival_pm]

theorem goodFrame_timed (m : MeasFrame) : Timed s (goodFrame m s) := by
  have worked (u : State) : Timed u (thermalWork m u) := by
    unfold thermalWork
    split
    exacts [.refl u, thermal_timed _ _]
  rw [goodFrame_arrival]
  exact ((arrival_guarded m).toTimed.trans (protect_timed m)).trans (worked _)

/-! ## The law of a slot and of the antenna after a frame -/

/-- A slot is tested in Clear alone, and not where no test runs (R47). -/
theorem slotTested_clear (tested : s.slotTested k = true) : ¬ s.untested ∧ (s.ca.slots.get k).trip = .clear := by
  refine ⟨fun untested => ?_, ?_⟩
  · rw [slotTested_untested untested] at tested
    cases tested
  · simp only [State.slotTested, State.participates, Bool.and_eq_true, beq_iff_eq] at tested
    tauto

/-- An over-driven slot is Tripped with its hold-off timer running while a retry is left, or Latched with none (R49). -/
theorem goodFrame_trip_sound (held : s.nc.setting = some g) (driven : s.overDriven g m k) (low : 0 < g.tripFilter)
    (sound : s.slotSound k) : (goodFrame m s).slotSound k := by
  obtain ⟨tested, clear⟩ := slotTested_clear driven.1
  obtain ⟨filter, retry⟩ := goodFrame_trip_counts held driven
  have stopped : (s.pm.slots.get k).holdOff = .stopped := by
    by_contra runs
    have tripped := sound.holdOff.mp runs
    rw [clear] at tripped
    cases tripped
  obtain ⟨-, most, -⟩ := sound.bounds g held
  have kept := goodFrame_timed (s := s) m
  have untested : ¬ (goodFrame m s).untested := fun h => tested (kept.untested.mp h)
  have bound (left : (s.pm.slots.get k).retry < g.maxRetries ∨ ((goodFrame m s).ca.slots.get k).trip ≠ .tripped) :
      ∀ g' ∈ (goodFrame m s).nc.setting, ((goodFrame m s).pm.slots.get k).filter < g'.tripFilter ∧
        ((goodFrame m s).pm.slots.get k).retry ≤ g'.maxRetries ∧
        (((goodFrame m s).ca.slots.get k).trip = .tripped → ((goodFrame m s).pm.slots.get k).retry < g'.maxRetries) := by
    intro g' mem
    rw [kept.setting, held] at mem
    obtain rfl := Option.some.inj mem
    rw [filter, retry]
    exact ⟨low, most, fun tripped => left.resolve_right (not_not_intro tripped)⟩
  by_cases final : g.maxRetries ≤ (s.pm.slots.get k).retry ∨ ((testedBefore g m k s).ca.slots.get k).fill ≠ 0
  · obtain ⟨⟨trip, holdOff, -⟩, -⟩ := goodFrame_latched held driven final
    refine ⟨?_, fun _ => filter, bound (.inr (by rw [trip]; nofun)), fun h => absurd h untested⟩
    rw [trip, holdOff, stopped]
    exact iff_of_false (fun runs => runs rfl) nofun
  · rw [not_or, not_le, not_not] at final
    obtain ⟨left, fill⟩ := final
    obtain ⟨⟨trip, holdOff, -⟩, -⟩ := goodFrame_tripped held driven left fill
    refine ⟨?_, fun _ => filter, bound (.inl left), fun h => absurd h untested⟩
    rw [trip, holdOff]
    exact iff_of_true nofun rfl

/-- A slot that does not trip keeps trip state, timer and retry count, and counts short of the trip filter (R48). -/
theorem goodFrame_quiet_sound (held : s.nc.setting = some g) (quiet : ¬ s.overDriven g m k) (low : 0 < g.tripFilter)
    (sound : s.slotSound k) : (goodFrame m s).slotSound k := by
  have kept := goodFrame_timed (s := s) m
  obtain ⟨trip, retry, holdOff, raised, reset⟩ := goodFrame_untripped held quiet
  obtain ⟨-, most, left⟩ := sound.bounds g held
  have short : ((goodFrame m s).pm.slots.get k).filter < g.tripFilter := by
    by_cases fails : s.slotFails g m k
    · rw [raised fails]
      by_contra full
      exact quiet (overDriven_iff.mpr ⟨fails, not_lt.mp full⟩)
    · rw [reset fails]
      exact low
  refine ⟨?_, fun leaves => ?_, fun g' mem => ?_, fun untested => ?_⟩
  · rw [trip, holdOff]
    exact sound.holdOff
  · rw [trip] at leaves
    exact reset fun ⟨tested, _⟩ => leaves (slotTested_clear tested).2
  · rw [kept.setting, held] at mem
    obtain rfl := Option.some.inj mem
    rw [trip, retry]
    exact ⟨short, most, left⟩
  · have before := kept.untested.mp untested
    obtain ⟨clear, -, zero⟩ := sound.untested before
    refine ⟨trip.trans clear, reset fun ⟨tested, _⟩ => ?_, retry.trans zero⟩
    exact (slotTested_clear tested).1 before

/-- The antenna counts short of the trip filter, and nothing once latched (R55, R56). -/
theorem goodFrame_antenna_sound (held : s.nc.setting = some g) (low : 0 < g.tripFilter) (sound : s.antennaSound) :
    (goodFrame m s).antennaSound := by
  have kept := goodFrame_timed (s := s) m
  obtain ⟨latches, raises, resets⟩ := goodFrame_antenna (m := m) held
  have limit (g' : Setting) (mem : g' ∈ (goodFrame m s).nc.setting) : g' = g := by
    rw [kept.setting, held] at mem
    exact (Option.some.inj mem).symm
  have tested (fails : s.antennaFails g m) : ¬ s.untested ∧ s.pm.antLatch = false := by
    obtain ⟨tested, -⟩ := fails
    obtain ⟨configured, running, unlatched, -⟩ := (antennaTested_iff held).mp tested
    exact ⟨not_or.mpr ⟨by simp [configured], running⟩, unlatched⟩
  by_cases fails : s.antennaFails g m
  · obtain ⟨tested, unlatched⟩ := tested fails
    have untested : ¬ (goodFrame m s).untested := fun h => tested (kept.untested.mp h)
    by_cases full : g.tripFilter ≤ s.pm.antFilter + 1
    · obtain ⟨filter, latch⟩ := Prod.mk.inj (latches ⟨fails, full⟩)
      exact ⟨fun _ => filter, fun g' mem => by rw [filter, limit g' mem]; exact low, fun h => absurd h untested⟩
    · obtain ⟨filter, latch⟩ := Prod.mk.inj (raises fails (not_le.mp full))
      refine ⟨fun latched => ?_, fun g' mem => by rw [filter, limit g' mem]; exact not_le.mp full,
        fun h => absurd h untested⟩
      rw [latch, unlatched] at latched
      cases latched
  · obtain ⟨filter, latch⟩ := Prod.mk.inj (resets fails)
    refine ⟨fun _ => filter, fun g' mem => by rw [filter, limit g' mem]; exact low, fun h => ⟨filter, ?_⟩⟩
    obtain ⟨-, off⟩ := sound.untested (kept.untested.mp h)
    rw [latch, off]

/-- With no image held a frame leaves trip states, timers and retry counts, and puts every filter count to 0 (R44). -/
theorem goodFrame_unheld_sound (none : s.nc.setting = none) :
    ((∀ k, s.slotSound k) → ∀ k, (goodFrame m s).slotSound k) ∧ (s.antennaSound → (goodFrame m s).antennaSound) := by
  have kept := goodFrame_timed (s := s) m
  obtain ⟨antFilter, -, antLatch, guards⟩ := goodFrame_pm_unheld (m := m) none
  have unheld (g' : Setting) (mem : g' ∈ (goodFrame m s).nc.setting) : False := by
    rw [kept.setting, none] at mem
    cases mem
  have trip (k : Slot) : ((goodFrame m s).ca.slots.get k).trip = (s.ca.slots.get k).trip := by
    have tests : protect m (arrival m s) = clearSettled (arrival m s) (clearFilters (arrival m s)) := by
      rw [protect, (arrival_alike m s).setting.trans none]
    rw [goodFrame_unheld none, tests]
    show ((arrival m s).ca.slots.get k).trip = _
    rw [(arrival_alike m s).slots k]
  refine ⟨fun sound k => ⟨?_, fun _ => by rw [guards k], fun g' mem => (unheld g' mem).elim, fun untested => ?_⟩,
    fun sound => ⟨fun _ => antFilter, fun g' mem => (unheld g' mem).elim, fun untested => ⟨antFilter, ?_⟩⟩⟩
  · rw [trip, guards k]
    exact (sound k).holdOff
  · obtain ⟨clear, -, retry⟩ := (sound k).untested (kept.untested.mp untested)
    rw [trip, guards k]
    exact ⟨clear, rfl, retry⟩
  · rw [antLatch]
    exact (sound.untested (kept.untested.mp untested)).2

theorem goodFrame_protection (m : MeasFrame) (law : ProtectionLaw s) : ProtectionLaw (goodFrame m s) := by
  cases held : s.nc.setting with
  | none =>
    obtain ⟨slots, antenna⟩ := goodFrame_unheld_sound (m := m) held
    exact (goodFrame_timed m).protection law slots antenna
  | some g =>
    obtain ⟨-, -, -, limits⟩ := (protectionLaw_iff s).mp law
    have low : 0 < g.tripFilter := (limits g held).1
    refine (goodFrame_timed m).protection law (fun sound k => ?_) (goodFrame_antenna_sound held low)
    by_cases driven : s.overDriven g m k
    · exact goodFrame_trip_sound held driven low (sound k)
    · exact goodFrame_quiet_sound held driven low (sound k)

end

end Sys2Proof.Machine
end

section
/-! SUPPORT. What the Protection Monitor's timers, CLEAR_TRIP and the entries to Joining and Serving make of the laws of Node
Control and of the Protection Monitor (R51, R52, R57, R161, R162). -/

namespace Sys2Proof.Machine

section
variable {s t u : State} {k : Slot}

/-! ## Hold-off and clean run -/

theorem slotReleased_governed (k : Slot) : Governed s (slotReleased k s) := by
  refine .of_same rfl rfl rfl fun counted j => ?_
  rw [slotReleased_guard]
  split_ifs
  exacts [fun _ => Nat.succ_pos _, counted j]

/-- A Tripped slot has a retry left, so that it is sound when released (R49, R51). -/
theorem slotReleased_sound (tripped : (s.ca.slots.get k).trip = .tripped) (sound : ∀ j, s.slotSound j) (j : Slot) :
    (slotReleased k s).slotSound j := by
  by_cases same : j = k
  · subst same
    have slot := slotReleased_slot j j s
    have guard := slotReleased_guard j j s
    rw [if_pos rfl] at slot guard
    obtain ⟨-, filter, bounds, untested⟩ := sound j
    refine ⟨?_, fun leaves => absurd (congrArg SlotRecord.trip slot) leaves, fun g held => ?_, fun idle => ?_⟩
    · rw [slot, guard]
      exact iff_of_false (fun runs => runs rfl) nofun
    · obtain ⟨short, -, left⟩ := bounds g held
      rw [slot, guard]
      exact ⟨short, left tripped, nofun⟩
    · obtain ⟨clear, -⟩ := untested idle
      rw [clear] at tripped
      cases tripped
  · refine slotSound_of_counts (s := s) (counts_iff.mpr ?_) rfl id (sound j)
    rw [slotReleased_slot, slotReleased_guard, if_neg same, if_neg same]
    exact ⟨rfl, rfl, rfl, rfl⟩

theorem release_timed (k : Slot) : Timed s (release k s) := by
  rw [release_eq]
  exact (slotReleased_governed k).reallot

theorem release_protection (tripped : (s.ca.slots.get k).trip = .tripped) (law : ProtectionLaw s) :
    ProtectionLaw (release k s) := by
  refine (release_timed k).protection law (fun sound j => ?_) fun sound => ?_
  · rw [release_eq]
    exact slotSound_of_counts (reallot_guarded.counts j) reallot_guarded.setting reallot_guarded.untested.mp
      (slotReleased_sound tripped sound j)
  · refine antennaSound_of_same ?_ (release_timed k).setting (release_timed k).untested.mp sound
    rw [release_eq, reallot_guarded.antenna]
    rfl

/-- The retry count is 0 and its timer stopped. -/
def State.cleanRunOver (k : Slot) (s : State) : State :=
  { s with pm := { s.pm with slots := s.pm.slots.modify k fun p => { p with retry := 0, cleanRun := .stopped } } }

theorem cleanRunOver_guard (k j : Slot) (s : State) :
    (s.cleanRunOver k).pm.slots.get j =
      if j = k then { s.pm.slots.get j with retry := 0, cleanRun := .stopped } else s.pm.slots.get j := by
  rw [State.cleanRunOver, Six.get_modify]

theorem cleanRunOver_timed (k : Slot) : Timed s (s.cleanRunOver k) := by
  refine ⟨.of_same rfl rfl rfl fun counted j => ?_, fun stand j => ?_⟩
  · rw [cleanRunOver_guard]
    split_ifs
    exacts [fun runs => absurd rfl runs, counted j]
  · rw [cleanRunOver_guard]
    split_ifs
    exacts [iff_of_false (fun runs => runs rfl) fun ⟨retry, _⟩ => absurd retry (lt_irrefl 0), stand j]

theorem cleanRunOver_protection (law : ProtectionLaw s) : ProtectionLaw (s.cleanRunOver k) := by
  refine (cleanRunOver_timed k).protection law (fun sound j => ?_) fun sound => antennaSound_of_same (s := s) rfl rfl id sound
  by_cases same : j = k
  · obtain ⟨holdOff, filter, bounds, untested⟩ := sound j
    have guard := cleanRunOver_guard k j s
    rw [if_pos same] at guard
    refine ⟨?_, fun leaves => ?_, fun g held => ?_, fun idle => ?_⟩
    · rw [guard]
      exact holdOff
    · rw [guard]
      exact filter leaves
    · obtain ⟨short, -, left⟩ := bounds g held
      rw [guard]
      exact ⟨short, Nat.zero_le _, fun tripped => Nat.zero_lt_of_lt (left tripped)⟩
    · obtain ⟨clear, zero, -⟩ := untested idle
      rw [guard]
      exact ⟨clear, zero, rfl⟩
  · refine slotSound_of_counts (s := s) (counts_iff.mpr ?_) rfl id (sound j)
    rw [cleanRunOver_guard, if_neg same]
    exact ⟨rfl, rfl, rfl, rfl⟩

/-! ## CLEAR_TRIP -/

/-- What is cleared of a list of slots leaves every slot sound (R57). -/
theorem TripsCleared.sound {l : List Slot} (h : TripsCleared l s t) (nc : t.nc = s.nc) (sound : ∀ k, s.slotSound k)
    (k : Slot) : t.slotSound k := by
  have idle : t.untested → s.untested := (untested_congr (by rw [nc]) (by rw [nc])).mp
  have slot := congrArg SlotRecord.trip (h.slots k)
  have guard := h.guards k
  by_cases cleared : k ∈ l ∧ (s.ca.slots.get k).trip ≠ .clear
  · rw [if_pos cleared] at guard
    have trip : (t.ca.slots.get k).trip = .clear := by rw [slot, if_pos cleared.1]
    refine ⟨?_, fun leaves => absurd trip leaves, fun g held => ?_, fun _ => ?_⟩
    · rw [trip, guard]
      exact iff_of_false (fun runs => runs rfl) nofun
    · rw [nc] at held
      obtain ⟨short, -⟩ := (sound k).bounds g held
      rw [trip, guard]
      exact ⟨Nat.zero_lt_of_lt short, Nat.zero_le _, nofun⟩
    · rw [guard]
      exact ⟨trip, rfl, rfl⟩
  · rw [if_neg cleared] at guard
    have trip : (t.ca.slots.get k).trip = (s.ca.slots.get k).trip := by
      rw [slot]
      by_cases mem : k ∈ l
      · rw [if_pos mem]
        exact (not_not.mp fun leaves => cleared ⟨mem, leaves⟩).symm
      · rw [if_neg mem]
    exact slotSound_of_counts (counts_iff.mpr (by rw [trip, guard]; exact ⟨rfl, rfl, rfl, rfl⟩)) (by rw [nc]) idle (sound k)

theorem clearAntenna_sound (sound : s.antennaSound) : (clearAntenna s).antennaSound := by
  unfold clearAntenna
  split_ifs
  · refine ⟨nofun, fun g held => Nat.zero_lt_of_lt (sound.bound g held), fun _ => ⟨rfl, rfl⟩⟩
  · exact sound

theorem clearSlotTrips_nc (l : List Slot) (s : State) : (l.foldl clearSlotTrip s).nc = s.nc := by
  induction l generalizing s with
  | nil => rfl
  | cons k l ih => exact (ih (clearSlotTrip s k)).trans (clearSlotTrip_nc s k)

theorem clearTarget_antennaSound {target : Nat} (h : target ≤ 7) (sound : s.antennaSound) :
    (clearTarget target s).antennaSound := by
  obtain ⟨latch, filter⟩ := clearSlotTrips_antenna (targetSlots target) s
  have nc := clearSlotTrips_nc (targetSlots target) s
  have slots : ((targetSlots target).foldl clearSlotTrip s).antennaSound :=
    antennaSound_of_same (Prod.ext filter latch) (by rw [nc]) (untested_congr (by rw [nc]) (by rw [nc])).mp sound
  rw [clearTarget_eq s h]
  split_ifs
  exacts [clearAntenna_sound slots, slots]

theorem clearTarget_governed {target : Nat} (h : target ≤ 7) : Governed s (clearTarget target s) := by
  refine .of_same (clearTarget_nc s target) (clearTarget_su s target) (by rw [clearTarget_lc]) fun counted k => ?_
  rw [(clearTarget_clears s h).guards k]
  split_ifs
  exacts [fun runs => absurd rfl runs, counted k]

theorem clearTrip_protection {target : Nat} (h : target ≤ 7) (law : ProtectionLaw s) :
    ProtectionLaw (pass (evaluateOff (clearTarget target s))) := by
  have cleared := clearTarget_clears s h
  have after := reallot_guarded (s := clearTarget target s)
  refine (clearTarget_governed h).reallot.protection law (fun sound k => ?_) fun sound => ?_
  · exact slotSound_of_counts (after.counts k) after.setting after.untested.mp
      (cleared.sound (clearTarget_nc s target) sound k)
  · exact antennaSound_of_same after.antenna after.setting after.untested.mp (clearTarget_antennaSound h sound)

/-! ## Entries to Joining and Serving -/

/-- The change of node state to Joining leaves the counts, and its pass puts the clean-run timers right (R52, R161). -/
theorem joined_guarded : Guarded { s with nc := { s.nc with state := some .joining } } s.joined := by
  have zeroed : Guarded { s with nc := { s.nc with state := some .joining } }
      (zeroTrims { s with nc := { s.nc with state := some .joining } }) := zeroTrims_guarded
  exact zeroed.trans stateChanged_guarded

theorem joined_runs (counted : s.runsCounted) : s.joined.runsStand :=
  stateChanged_runs (s := zeroTrims { s with nc := { s.nc with state := some .joining } }) counted

/-- Entry to Joining, with the timers that it starts, of a configured node whose Spread Unit is still (R161, R164). -/
theorem enterJoining_guarded {g : Setting} (held : s.nc.setting = some g) (withdrawn : s.nc.state = some .withdrawn)
    (running : s.nc.restart ≠ .inProgress) : Guarded s (enterJoining s) := by
  have joined := joined_guarded (s := s)
  have runs : s.runsCounted → s.joined.runsStand := joined_runs
  obtain ⟨-, -, nc, -, su, -⟩ := joined_frame s
  have inUse := enterJoining_inUse s
  rw [enterJoining_eq held] at inUse ⊢
  generalize s.joined = u at *
  refine .of_entry (join := .running (u.now + g.joinCount * g.beaconPeriod * 500)) (n := .joining) ?_ running
    (by decide) ?_ inUse (fun _ => rfl) (fun law works => ?_) runs joined.counts joined.antenna
  · simp [State.configured, withdrawn]
  · simp only [State.timed, nc]
  · obtain ⟨-, round, -⟩ := law
    have works : u.su.round.isSome = true ∨ u.su.roundTimer ≠ .stopped := works
    rw [su] at works
    rw [(round works).1] at withdrawn
    cases withdrawn

/-- Entry to Serving from Joining, with the round timer that it starts (R162). -/
theorem enterServing_guarded (joining : s.nc.state = some .joining) (running : s.nc.restart ≠ .inProgress) :
    Guarded s (enterServing s) := by
  have entered : Guarded { s with nc := { s.nc with state := some .serving, joinTimer := .stopped } }
      (stateChanged { s with nc := { s.nc with state := some .serving, joinTimer := .stopped } }) := stateChanged_guarded
  have runs : s.runsCounted →
      (stateChanged { s with nc := { s.nc with state := some .serving, joinTimer := .stopped } }).runsStand :=
    fun counted => stateChanged_runs counted
  have nc := stateChanged_nc { s with nc := { s.nc with state := some .serving, joinTimer := .stopped } }
  have inUse := enterServing_inUse s
  unfold enterServing at inUse ⊢
  dsimp only at inUse ⊢
  generalize stateChanged _ = u at *
  refine .of_entry (n := .serving) (join := .stopped) ?_ running (by decide) nc inUse (fun runs => absurd rfl runs)
    (fun _ _ => rfl) runs entered.counts entered.antenna
  simp [State.configured, State.onAir, joining]

end

end Sys2Proof.Machine
end

section
/-! SUPPORT. The laws of Node Control and of the Protection Monitor at the start paths, at the end of an image read and at the
beginning of a soft restart: nothing was tested there, so everything is clear (R44, R58, R156 to R161, R166, R167). -/

namespace Sys2Proof.Machine

section
variable {s t : State} {g : Setting}

/-! ## A Protection Monitor in which everything is clear -/

/-- Every slot is Clear and counts nothing, and so does the antenna (R44). -/
structure State.allClear (s : State) : Prop where
  slots : ∀ k, s.counts k = (.clear, .stopped, 0, 0)
  antenna : s.antenna = (0, false)

theorem protection_of_clear (clear : s.allClear) (limits : s.limitsSound) (runs : s.runsStand) : ProtectionLaw s := by
  obtain ⟨slots, antenna⟩ := clear
  obtain ⟨antFilter, antLatch⟩ := Prod.mk.inj antenna
  refine (protectionLaw_iff s).mpr ⟨runs, fun k => ?_, ⟨fun _ => antFilter, fun g held => ?_, fun _ => ⟨antFilter, antLatch⟩⟩,
    limits⟩
  · have counts := slots k
    simp only [State.counts, Prod.mk.injEq] at counts
    obtain ⟨trip, holdOff, filter, retry⟩ := counts
    refine ⟨?_, fun _ => filter, fun g held => ?_, fun _ => ⟨trip, filter, retry⟩⟩
    · rw [trip, holdOff]
      exact iff_of_false (fun runs => runs rfl) nofun
    · rw [trip, filter, retry]
      exact ⟨(limits g held).1, Nat.zero_le _, nofun⟩
  · rw [antFilter]
    exact (limits g held).1

theorem State.allClear.same (h : s.allClear) (counts : ∀ k, t.counts k = s.counts k) (antenna : t.antenna = s.antenna) :
    t.allClear := ⟨fun k => (counts k).trans (h.slots k), antenna.trans h.antenna⟩

/-- Where no test runs everything is clear (R58). -/
theorem allClear_of_untested (law : ProtectionLaw s) (untested : s.untested) : s.allClear := by
  obtain ⟨-, slots, antenna, -⟩ := (protectionLaw_iff s).mp law
  obtain ⟨antFilter, antLatch⟩ := antenna.untested untested
  refine ⟨fun k => ?_, Prod.ext antFilter antLatch⟩
  obtain ⟨trip, filter, retry⟩ := (slots k).untested untested
  have holdOff : (s.pm.slots.get k).holdOff = .stopped := by
    by_contra runs
    have tripped := (slots k).holdOff.mp runs
    rw [trip] at tripped
    cases tripped
  rw [State.counts, trip, holdOff, filter, retry]

theorem idle_untested (h : s.idle) : s.untested :=
  h.imp_left fun none => by simp [State.configured, State.onAir, none]

/-! ## The end of a read with a good image -/

theorem goodImage_control (idle : s.idle) (reading : s.nc.reading = none) (law : ControlLaw s) :
    ControlLaw (goodImage g s) := by
  obtain ⟨-, round, -, -, -, due⟩ := law
  obtain ⟨nc, -⟩ := goodImage_timers s g
  obtain ⟨-, -, su, -⟩ := goodImage_frame s g
  obtain ⟨inUse, -⟩ := goodImage_line s g
  have running := handed_nc_running s g
  generalize goodImage g s = t at *
  have restarting : t.restarting = false := by
    rw [State.restarting, nc]
    exact beq_false_of_ne running
  have configured : t.configured = true := by
    rw [State.configured, State.onAir, nc]
    rfl
  unfold ControlLaw
  rw [configured, restarting, inUse, su, nc]
  refine ⟨fun _ => ⟨rfl, running⟩, fun works => ?_, fun reads => ?_, rfl, rfl, fun isDue => ?_⟩
  · obtain ⟨serving, started⟩ := round works
    rcases idle with none | restarting
    · rw [none] at serving
      cases serving
    · exact absurd restarting started
  · have reads : s.nc.reading.isSome = true := reads
    rw [reading] at reads
    cases reads
  · unfold Control.handed at isDue ⊢
    dsimp only at isDue ⊢
    split_ifs at isDue ⊢ with restarting
    exact due isDue

theorem entered_protection (law : ProtectionLaw s) (idle : s.idle) :
    (s.entered g).runsStand ∧ (s.entered g).allClear := by
  have clear := allClear_of_untested law (idle_untested idle)
  obtain ⟨runs, -⟩ := (protectionLaw_iff s).mp law
  have handed := handed_eq s g
  have counts (k : Slot) : (s.handed g).counts k = s.counts k := by
    rw [State.counts, handed_trip, handed]
    rfl
  have pm : (s.handed g).pm = s.pm := by
    rw [handed]
    rfl
  unfold State.entered
  generalize s.handed g = u at *
  have counted : (beginLine g.rate .normal u).runsCounted := by
    refine runsCounted_of_same (s := s) (fun k => ?_) runs.counted
    rw [beginLine_pm, pm]
    exact ⟨rfl, rfl⟩
  have joined := joined_guarded (s := beginLine g.rate .normal u)
  exact ⟨joined_runs counted, clear.same (fun k => (joined.counts k).trans (counts k))
    (joined.antenna.trans (antenna_of_pm pm))⟩

theorem goodImage_protection (limits : 1 ≤ g.tripFilter ∧ g.maxRetries ≤ 7) (idle : s.idle) (law : ProtectionLaw s) :
    ProtectionLaw (goodImage g s) := by
  obtain ⟨runs, clear⟩ := entered_protection (g := g) law idle
  obtain ⟨-, -, nc, -⟩ := entered_frame s g
  rw [goodImage_eq]
  generalize s.entered g = u at *
  have timed : (u.timed g).allClear := clear.same (fun _ => rfl) rfl
  refine protection_of_clear timed (fun g' held => ?_) runs
  have held : g' ∈ u.nc.setting := held
  rw [nc] at held
  obtain rfl := Option.some.inj held
  exact limits

theorem settingOf_limits (bytes : List Byte) : 1 ≤ (settingOf bytes).tripFilter ∧ (settingOf bytes).maxRetries ≤ 7 := by
  have low (v : Nat) : 1 ≤ tripFilterOf v := by
    unfold tripFilterOf
    split_ifs <;> decide
  exact ⟨low _, min_le_left 7 _⟩

/-! ## Entry to Unconfigured -/

/-- The node in its new state Unconfigured, with no round and cool (R160). -/
def State.unconfiguring (s : State) : State :=
  abandonRound
    { s with
      mi := { s.mi with sampleTimer := .stopped, derate := 0, mute := false }
      nc := { s.nc with state := some .unconfigured, joinTimer := .stopped } }

/-- The node in Unconfigured, before the beacon timer starts (R160). -/
def State.unconfigured (s : State) : State := stateChanged (zeroTrims s.unconfiguring)

theorem enterUnconfigured_eq (s : State) :
    enterUnconfigured s = startBeaconTimer Config.unconfiguredPeriod s.unconfigured := rfl

theorem enterUnconfigured_control (setting : s.nc.setting = none) (reading : s.nc.reading = none)
    (running : s.nc.restart = .none) (due : s.nc.restartDue = false) (inUse : s.lc.inUse = true) :
    ControlLaw (enterUnconfigured s) := by
  have nc : s.unconfigured.nc = { s.nc with state := some .unconfigured, joinTimer := .stopped } := stateChanged_nc _
  have su : s.unconfigured.su = ⟨.stopped, none⟩ := stateChanged_su _
  have uses : s.unconfigured.lc.inUse = true := by
    rw [State.unconfigured, stateChanged_inUse]
    exact inUse
  rw [enterUnconfigured_eq]
  generalize s.unconfigured = u at *
  refine controlLaw_of_same (s := u) rfl rfl rfl ?_
  unfold ControlLaw State.configured State.onAir State.restarting
  rw [nc, su, uses, setting, reading, running, due]
  dsimp only
  decide

theorem enterUnconfigured_protection (clear : s.allClear) (counted : s.runsCounted) (setting : s.nc.setting = none) :
    ProtectionLaw (enterUnconfigured s) := by
  have entering : s.unconfiguring.allClear := clear.same (fun _ => rfl) rfl
  have zeroed : Guarded s.unconfiguring (zeroTrims s.unconfiguring) := zeroTrims_guarded
  have changed : Guarded s.unconfiguring s.unconfigured := zeroed.trans stateChanged_guarded
  have runs : s.unconfigured.runsStand := stateChanged_runs (s := zeroTrims s.unconfiguring) counted
  have nc : s.unconfigured.nc = { s.nc with state := some .unconfigured, joinTimer := .stopped } := stateChanged_nc _
  have left : s.unconfigured.allClear := entering.same changed.counts changed.antenna
  rw [enterUnconfigured_eq]
  generalize s.unconfigured = u at *
  have started : Guarded u (startBeaconTimer Config.unconfiguredPeriod u) := setLine_guarded _
  refine started.protection (protection_of_clear left (fun g held => ?_) runs)
  rw [nc, setting] at held
  cases held

/-! ## The end of a read without a good image -/

/-- The node with CFG raised and the line begun, before it enters Unconfigured (R160, R167). -/
def State.refusedImage (s : State) : State :=
  beginLine .kbit250 .normal (restartOver (raiseFault (.plain .cfg) none s.cooled))

theorem refusedImage_blocks (idle : s.idle) :
    s.refusedImage.nc = { s.nc with setting := none, restart := .none, restartDue := false } ∧
      s.refusedImage.pm = s.pm ∧ ∀ k, (s.refusedImage.ca.slots.get k).trip = (s.ca.slots.get k).trip := by
  have idle : s.cooled.idle := idle
  have trip (k : Slot) : (s.cooled.ca.slots.get k).trip = (s.ca.slots.get k).trip := unloadImage_trip k s
  have frame := raiseFault_grounded (key := .plain .cfg) none (idle_grounded idle)
  unfold State.refusedImage
  generalize raiseFault (.plain .cfg) none s.cooled = u at *
  have nc : u.nc = { s.nc with setting := none } := by rw [frame]; rfl
  have pm : u.pm = s.pm := by rw [frame]; rfl
  have ca : u.ca = s.cooled.ca := by rw [frame]
  refine ⟨?_, pm, fun k => ?_⟩
  · rw [beginLine_nc, restartOver, nc]
  · show (u.ca.slots.get k).trip = _
    rw [ca, trip]

theorem badImage_control (idle : s.idle) (reading : s.nc.reading = none) : ControlLaw (badImage s) := by
  obtain ⟨nc, -⟩ := refusedImage_blocks idle
  have inUse : s.refusedImage.lc.inUse = true := rfl
  show ControlLaw (enterUnconfigured s.refusedImage)
  generalize s.refusedImage = u at *
  exact enterUnconfigured_control (by rw [nc]) (by rw [nc]; exact reading) (by rw [nc]) (by rw [nc]) inUse

theorem badImage_protection (idle : s.idle) (law : ProtectionLaw s) : ProtectionLaw (badImage s) := by
  have clear := allClear_of_untested law (idle_untested idle)
  obtain ⟨runs, -⟩ := (protectionLaw_iff s).mp law
  obtain ⟨nc, pm, trip⟩ := refusedImage_blocks idle
  show ProtectionLaw (enterUnconfigured s.refusedImage)
  generalize s.refusedImage = u at *
  have counts (k : Slot) : u.counts k = s.counts k := by rw [State.counts, State.counts, pm, trip]
  refine enterUnconfigured_protection (clear.same counts (antenna_of_pm pm)) ?_ (by rw [nc])
  exact runsCounted_of_same (fun k => by rw [pm]; exact ⟨rfl, rfl⟩) runs.counted

/-! ## The soft restart and the full reset -/

theorem reset_pm_still (pm : s.pm = State.reset.pm) (trip : ∀ k, (s.ca.slots.get k).trip = .clear) :
    s.allClear ∧ s.runsStand := by
  have guard (k : Slot) : s.pm.slots.get k = SlotGuard.reset := by rw [pm, reset_guard]
  refine ⟨⟨fun k => ?_, by rw [State.antenna, pm]; rfl⟩, fun k => ?_⟩
  · rw [State.counts, trip, guard]
    rfl
  · rw [guard]
    exact iff_of_false (fun runs => runs rfl) fun ⟨retry, _⟩ => absurd retry (lt_irrefl 0)

theorem beginRestart_control (law : ControlLaw s) : ControlLaw (beginRestart s) := by
  obtain ⟨-, -, -, held, -⟩ := law
  refine ⟨fun runs => absurd rfl runs, fun works => ?_, fun _ => .inr rfl, held, ?_, nofun⟩
  · rcases works with round | timer
    · cases round
    · exact absurd rfl timer
  · show false = (s.nc.state.isSome && false)
    rw [Bool.and_false]

theorem beginRestart_protection (law : ProtectionLaw s) : ProtectionLaw (beginRestart s) := by
  obtain ⟨-, -, -, limits⟩ := (protectionLaw_iff s).mp law
  obtain ⟨clear, runs⟩ := reset_pm_still (s := beginRestart s) rfl fun k =>
    congrArg SlotRecord.trip (restarted_slot s.ca k)
  exact protection_of_clear clear limits runs

theorem released_laws (straps : BitVec 6) (pending : List Instr) :
    ControlLaw (startImageRead (State.released straps pending)) ∧
      ProtectionLaw (startImageRead (State.released straps pending)) := by
  obtain ⟨clear, runs⟩ := reset_pm_still (s := startImageRead (State.released straps pending)) rfl fun k =>
    congrArg SlotRecord.trip (fullReset_slot k)
  refine ⟨⟨fun joins => absurd rfl joins, fun works => ?_, fun _ => .inl rfl, rfl, rfl, nofun⟩,
    protection_of_clear clear nofun runs⟩
  rcases works with round | timer
  · cases round
  · exact absurd rfl timer

theorem strapRefused_laws (straps : BitVec 6) (pending : List Instr) :
    ControlLaw (State.strapRefused straps pending) ∧ ProtectionLaw (State.strapRefused straps pending) := by
  obtain ⟨clear, runs⟩ := reset_pm_still (s := State.strapRefused straps pending) rfl fun k =>
    congrArg SlotRecord.trip (fullReset_slot k)
  refine ⟨⟨fun joins => absurd rfl joins, fun works => ?_, nofun, rfl, rfl, nofun⟩, protection_of_clear clear nofun runs⟩
  rcases works with round | timer
  · cases round
  · exact absurd rfl timer

/-- The start with an invalid strap address ends in Unconfigured, with everything clear (R158). -/
theorem invalidStrapPath_control_protection (straps : BitVec 6) (pending : List Instr) :
    ControlLaw (invalidStrapPath (State.released straps pending)) ∧
      ProtectionLaw (invalidStrapPath (State.released straps pending)) := by
  obtain ⟨control, protection⟩ := strapRefused_laws straps pending
  have alarmed : Guarded (State.strapRefused straps pending)
      (startBeaconTimer Config.unconfiguredPeriod (alarm (State.strapRefused straps pending))) :=
    alarm_guarded.trans (setLine_guarded _)
  rw [invalidStrapPath_eq]
  exact ⟨alarmed.control control, alarmed.protection protection⟩

end

end Sys2Proof.Machine
end

section
/-! THEOREM. Every step keeps the laws of Node Control and of the Protection Monitor (R44, R49, R51 to R53, R58, R115, R155,
R157, R161, R163, R165). -/

namespace Sys2Proof.Machine

/-- Node Control's law is kept, and with it the Protection Monitor's. -/
def LawsKept (s t : State) : Prop := ControlLaw s → ControlLaw t ∧ (ProtectionLaw s → ProtectionLaw t)

section
variable {s t u : State}

theorem Guarded.lawsKept (h : Guarded s t) : LawsKept s t := fun law => ⟨h.control law, h.protection⟩

theorem LawsKept.trans (h : LawsKept s t) (h' : LawsKept t u) : LawsKept s u := fun law => by
  obtain ⟨control, protection⟩ := h law
  obtain ⟨control', protection'⟩ := h' control
  exact ⟨control', protection' ∘ protection⟩

theorem LawsKept.refl (s : State) : LawsKept s s := (Guarded.refl s).lawsKept

theorem lawsKept_of_unlessHeld (h : unlessHeld s u = .next t) (k : LawsKept s u) : LawsKept s t := by
  rcases unlessHeld_next s u with hn | hn <;> rw [hn] at h <;> obtain rfl := Host.Outcome.next.inj h
  exacts [.refl s, k]

/-! ## Commands handed over -/

theorem answerClearTrip_lawsKept (args : List Byte) : LawsKept s (answerClearTrip args s).state := by
  unfold answerClearTrip
  split_ifs with bad
  · exact .refl s
  · have low : byteAt args 0 ≤ 7 := not_lt.mp (not_or.mp bad).2
    rw [accept_state]
    exact fun law => ⟨(clearTarget_governed low).reallot.control law, clearTrip_protection low⟩
  · exact .refl s

theorem answerRestore_lawsKept (running : s.nc.restart ≠ .inProgress) : LawsKept s (answerRestore s).state := by
  unfold answerRestore
  split_ifs with withdrawn
  · exact .refl s
  · intro law
    have held : s.nc.setting.isSome = s.configured := by
      obtain ⟨-, -, -, held, -⟩ := law
      exact held
    obtain ⟨g, setting⟩ : ∃ g, s.nc.setting = some g :=
      Option.isSome_iff_exists.mp (by rw [held]; simp [State.configured, withdrawn])
    dsimp only
    rw [accept_state]
    exact (enterJoining_guarded setting withdrawn running).lawsKept law
  · exact .refl s

theorem answerOf_lawsKept (f : Frame) (running : s.nc.restart ≠ .inProgress) : LawsKept s (answerOf f s).state := by
  unfold answerOf
  split_ifs
  exacts [.refl s, (answerAckFaults_guarded _).lawsKept, answerClearTrip_lawsKept _, answerRestore_lawsKept running,
    answerRestart_guarded.lawsKept, (answerDump_guarded f).lawsKept, .refl s]

theorem takeCommand_lawsKept {f : Frame} {answer : State → Answer} (h : LawsKept s (answer s).state) :
    LawsKept s (takeCommand f answer s) := by
  unfold takeCommand
  split_ifs
  exacts [.refl s, (offerReply_guarded f (reject .notAllowed s)).lawsKept, h.trans (offerReply_guarded f _).lawsKept]

/-- A head is free outside the interval of a soft restart alone (R81, R168). -/
theorem freeHead_running {f : Frame} (free : s.freeHead = some f) : s.nc.restart ≠ .inProgress := by
  unfold State.freeHead at free
  split at free
  · cases free
  · split_ifs at free with held
    rw [Bool.or_eq_true, not_or] at held
    exact fun restarting => held.2 (by simp [State.restarting, restarting])

/-- A handover takes the head of the Receive Queue and answers it, outside a soft restart (R168). -/
theorem handOverCode_lawsKept {code : Nat} {answer : Frame → State → Answer}
    (h : ∀ f u, u.nc.restart ≠ .inProgress → LawsKept u (answer f u).state) :
    LawsKept s (handOverCode code answer s) := by
  unfold handOverCode
  split
  · exact .refl s
  · rename_i f free
    have running := freeHead_running free
    split_ifs
    exacts [dropHead_guarded.lawsKept.trans (takeCommand_lawsKept (h f (dropHead s) running)), .refl s]

theorem commandHandover_lawsKept (h : exec .commandHandover s = .next t) : LawsKept s t := by
  refine lawsKept_of_unlessHeld h ?_
  split
  · exact .refl s
  · rename_i f free
    have running := freeHead_running free
    split_ifs
    exacts [dropHead_guarded.lawsKept.trans (takeCommand_lawsKept (answerOf_lawsKept f (s := dropHead s) running)),
      dropHead_guarded.lawsKept, .refl s]

/-! ## Measurement and the timers -/

theorem measurementFrame_lawsKept {bits : List Bool} (h : exec (.measurementFrame bits) s = .next t) : LawsKept s t := by
  refine lawsKept_of_unlessHeld h ?_
  split
  exacts [.refl s, fun law => ⟨(goodFrame_timed _).control law, goodFrame_protection _⟩]

theorem holdOffExpiry_lawsKept {k : Slot} (h : exec (.holdOffExpiry k) s = .next t) : LawsKept s t := by
  refine lawsKept_of_unlessHeld h ?_
  split
  · exact .refl s
  · rename_i due runs
    refine (reach_guarded due).lawsKept.trans fun law => ⟨(release_timed k).control law, fun protection => ?_⟩
    obtain ⟨-, slots, -⟩ := (protectionLaw_iff _).mp protection
    have runs : ((s.reach due).pm.slots.get k).holdOff = .running due := runs
    exact release_protection ((slots k).holdOff.mp (by rw [runs]; nofun)) protection

theorem cleanRunExpiry_lawsKept {k : Slot} (h : exec (.cleanRunExpiry k) s = .next t) : LawsKept s t := by
  refine lawsKept_of_unlessHeld h ?_
  split
  · exact .refl s
  · rename_i due _
    exact (reach_guarded due).lawsKept.trans fun law => ⟨(cleanRunOver_timed k).control law, cleanRunOver_protection⟩

theorem joinTimerExpiry_lawsKept (h : exec .joinTimerExpiry s = .next t) : LawsKept s t := by
  refine lawsKept_of_unlessHeld h ?_
  split
  · exact .refl s
  · rename_i due runs
    intro law
    have joins : s.nc.state = some .joining ∧ s.nc.restart ≠ .inProgress := by
      obtain ⟨join, -⟩ := law
      exact join (by rw [runs]; nofun)
    obtain ⟨joining, running⟩ := joins
    have entered : Guarded (s.reach due) (enterServing (s.reach due)) := enterServing_guarded joining running
    exact ((reach_guarded due).trans entered).lawsKept law

/-! ## Starts -/

theorem settingImageReadEnd_lawsKept {bytes : List Byte} (h : exec (.settingImageReadEnd bytes) s = .next t) :
    LawsKept s t := by
  refine lawsKept_of_unlessHeld h ?_
  cases reading : s.nc.reading with
  | none => exact .refl s
  | some began =>
    intro law
    have idle : s.idle := by
      obtain ⟨-, -, reads, -⟩ := law
      exact reads (by rw [reading]; rfl)
    have closed (now : Nat) (check : BitVec 16) :
        Guarded s { s with now := now, nc := { s.nc with reading := none, checkValue := check } } := by
      refine .of_control (fun law => ?_) rfl rfl rfl rfl rfl rfl
      obtain ⟨join, round, -, rest⟩ := law
      exact ⟨join, round, nofun, rest⟩
    have refused (u : State) (idle : u.idle) (read : u.nc.reading = none) : LawsKept u (badImage u) :=
      fun _ => ⟨badImage_control idle read, badImage_protection idle⟩
    dsimp only
    split
    · exact ((closed (max s.now (began + Config.imageTimeout)) 0).lawsKept.trans (refused _ idle rfl)) law
    · rename_i image _
      have read := (closed s.now (imageCrc image)).lawsKept
      split_ifs
      · exact read.trans (fun law => ⟨goodImage_control idle rfl law,
          goodImage_protection (settingOf_limits image) idle⟩) law
      · exact read.trans (refused _ idle rfl) law

theorem softRestartBegin_lawsKept (h : exec .softRestartBegin s = .next t) : LawsKept s t := by
  refine lawsKept_of_unlessHeld h ?_
  split_ifs
  exacts [fun law => ⟨beginRestart_control law, beginRestart_protection⟩, .refl s]

theorem fullReset_lawsKept {straps : BitVec 6} (h : exec (.fullReset straps) s = .next t) : LawsKept s t := by
  rw [exec_fullReset] at h
  obtain rfl := Host.Outcome.next.inj h
  have established (u : State) (laws : ControlLaw u ∧ ProtectionLaw u) : LawsKept s u :=
    fun _ => laws.imp_right fun law _ => law
  split_ifs
  exacts [established _ (released_laws straps _), established _ (invalidStrapPath_control_protection straps _)]

theorem resetInputAsserted_lawsKept (h : exec .resetInputAsserted s = .next t) : LawsKept s t := by
  obtain rfl := Host.Outcome.next.inj h
  exact fun _ => ⟨reset_controlLaw, fun _ => reset_protectionLaw⟩

/-! ## Every command, every step -/

theorem exec_lawsKept {c : Instr} (h : exec c s = .next t) : LawsKept s t := by
  cases c with
  | fullReset straps => exact fullReset_lawsKept h
  | resetInputAsserted => exact resetInputAsserted_lawsKept h
  | settingImageReadEnd bytes => exact settingImageReadEnd_lawsKept h
  | measurementFrame bits => exact measurementFrame_lawsKept h
  | levelFrameSent => exact (levelFrameSent_guarded h).lawsKept
  | sampleTimerExpiry => exact (sampleTimerExpiry_guarded h).lawsKept
  | holdOffExpiry slot => exact holdOffExpiry_lawsKept h
  | cleanRunExpiry slot => exact cleanRunExpiry_lawsKept h
  | roundTimerExpiry => exact (roundTimerExpiry_guarded h).lawsKept
  | roundCommit => exact (roundCommit_guarded h).lawsKept
  | joinTimerExpiry => exact joinTimerExpiry_lawsKept h
  | staleDeadline address => exact (staleDeadline_guarded h).lawsKept
  | silentDeadline address => exact (silentDeadline_guarded h).lawsKept
  | goneDeadline address => exact (goneDeadline_guarded h).lawsKept
  | beaconTimerExpiry => exact (beaconTimerExpiry_guarded h).lawsKept
  | coolDownExpiry => exact (coolDownExpiry_guarded h).lawsKept
  | peerFrameReceived line othersHold => exact (peerFrameReceived_guarded h).lawsKept
  | transmissionStart recessive => exact (transmissionStart_guarded h).lawsKept
  | arbitrationLost position readBack => exact (arbitrationLost_guarded h).lawsKept
  | bitError position readBack ack hold => exact (bitError_guarded h).lawsKept
  | transmitFrameEnd ack hold => exact (transmitFrameEnd_guarded h).lawsKept
  | bitErrorSettle recessive => exact (bitErrorSettle_guarded h).lawsKept
  | breakDetected => exact (breakDetected_guarded h).lawsKept
  | breakEnd => exact (breakEnd_guarded h).lawsKept
  | beaconApply => exact (beaconApply_guarded h).lawsKept
  | commandHandover => exact commandHandover_lawsKept h
  | frameDrop => exact (frameDrop_guarded h).lawsKept
  | identify => exact lawsKept_of_unlessHeld h (handOverCode_lawsKept fun _ u _ => .refl u)
  | ackFaults => exact lawsKept_of_unlessHeld h (handOverCode_lawsKept fun _ _ _ => (answerAckFaults_guarded _).lawsKept)
  | clearTrip => exact lawsKept_of_unlessHeld h (handOverCode_lawsKept fun _ _ _ => answerClearTrip_lawsKept _)
  | restore => exact lawsKept_of_unlessHeld h (handOverCode_lawsKept fun _ _ running => answerRestore_lawsKept running)
  | restart => exact lawsKept_of_unlessHeld h (handOverCode_lawsKept fun _ _ _ => answerRestart_guarded.lawsKept)
  | dump => exact lawsKept_of_unlessHeld h (handOverCode_lawsKept fun f _ _ => (answerDump_guarded f).lawsKept)
  | replyEnqueue => exact (replyEnqueue_guarded h).lawsKept
  | streamFrameBuild => exact (streamFrameBuild_guarded h).lawsKept
  | softRestartBegin => exact softRestartBegin_lawsKept h

theorem step_lawsKept (h : step s = .next t) : LawsKept s t := by
  unfold step at h
  split at h
  · obtain rfl := Host.Outcome.next.inj h
    unfold State.tick
    split_ifs
    exacts [.refl s, (Guarded.of_blocks rfl rfl rfl rfl rfl rfl).lawsKept]
  · rename_i c rest _
    have taken : Guarded s { s with pending := rest } := .of_blocks rfl rfl rfl rfl rfl rfl
    exact taken.lawsKept.trans (exec_lawsKept h)

end

/-- Settles O12, by what each command keeps: most leave the states and counts of the Protection Monitor, a frame's tests, the
timers and CLEAR_TRIP leave every slot sound, and the starts leave everything clear. -/
theorem controlLawKept : Obligations.ControlLawKept :=
  ⟨fun _ _ control h => (step_lawsKept h control).1, fun _ _ protection control h => (step_lawsKept h control).2 protection⟩

end Sys2Proof.Machine
end

section
/-! SUPPORT. The Frame Processor at the head of the Receive Queue (R81 to R84), the commands it hands over (R83, R168, R169),
and the place that a reply takes in the Transmit Queue (R88, R90). -/

namespace Sys2Proof.Machine

/-! ## The head of the Receive Queue -/

section

variable {s : State} {f : Frame} {rest : List Frame}

theorem dropHead_eq (queue : s.lc.rxQueue = f :: rest) : dropHead s = headTaken rest s := by
  rw [dropHead, queue, List.tail_cons, headTaken]

theorem freeHead_of_free (queue : s.lc.rxQueue = f :: rest) (running : s.nc.restart ≠ .inProgress)
    (free : s.headHeld f = false) : s.freeHead = some f := by
  simp [State.freeHead, queue, State.restarting, running, free]

theorem freeHead_of_held (queue : s.lc.rxQueue = f :: rest) (held : s.headHeld f = true) : s.freeHead = none := by
  simp [State.freeHead, queue, held]

/-- With no reply waiting, a round in flight alone holds the head, a beacon that would be applied (R81). -/
theorem headHeld_iff (idle : s.cu.current = none) :
    s.headHeld f = true ↔ f.kind = 1 ∧ s.beaconAccepted f = true ∧ s.su.round.isSome = true := by
  simp [State.headHeld, idle, and_assoc]

theorem headHeld_notBeacon (idle : s.cu.current = none) (other : f.kind ≠ 1) : s.headHeld f = false :=
  Bool.eq_false_iff.mpr fun held => other ((headHeld_iff idle).mp held).1

end

/-! ## FRAME_DROP -/

/-- Settles O51: the head is free where it is neither beacon nor command, and FRAME_DROP passes over the other two kinds. -/
theorem otherFramesAreDropped : Obligations.OtherFramesAreDropped := by
  intro s f rest acts queue idle running
  rw [exec, execFrameDrop, unlessHeld_acts acts]
  refine ⟨fun notBeacon notCommand => ?_, fun other => ?_⟩
  · rw [freeHead_of_free queue running (headHeld_notBeacon idle notBeacon), ← headTaken, ← dropHead_eq queue]
    dsimp only
    rw [if_neg (not_or_intro notBeacon notCommand)]
  · cases held : s.headHeld f with
    | true => rw [freeHead_of_held queue held]
    | false =>
      rw [freeHead_of_free queue running held]
      dsimp only
      rw [if_pos other]

/-! ## Handover -/

/-- Which commands R83 hands to the Command Unit. -/
theorem handsOver_iff {s : State} {f : Frame} (command : f.kind = 2) :
    s.handsOver f = true ↔ f.dest = s.nc.strap.toNat ∧ f.dest ≠ 0 ∧ 2 ≤ f.payload.length := by
  have parts : s.handsOver f = true ↔ (f.dest ≠ 0 ∧ 2 ≤ f.payload.length) ∧ f.dest = s.nc.strap.toNat := by
    simp [State.handsOver, command, State.ownAddress]
  rw [parts, and_comm]

/-- A reply that no restart waits for, to a command just taken from the queue (R90, R168). -/
theorem offerReply_headTaken {s : State} {f : Frame} {rest : List Frame} {a : Answer} (same : a.state = headTaken rest s)
    (restart : a.restart = false) (idle : s.cu.current = none) :
    offerReply f a =
      { headTaken rest s with
        cu := { s.cu with current := replyWaiting s.lc.mode f a.status.code a.data false a.stream } } := by
  rw [offerReply_waits restart (by rw [same]; exact idle), same]
  rfl

section

variable {s : State} {f : Frame} {rest : List Frame}
  (acts : s.acts) (queue : s.lc.rxQueue = f :: rest) (command : f.kind = 2) (idle : s.cu.current = none)
  (running : s.nc.restart ≠ .inProgress)

include queue command idle running

theorem freeHead_command : s.freeHead = some f := freeHead_of_free queue running (headHeld_command idle command)

include acts

theorem commandHandover_dropped (stays : ¬ s.handsOver f = true) : exec .commandHandover s = .next (headTaken rest s) := by
  rw [exec, execCommandHandover, unlessHeld_acts acts, freeHead_command queue command idle running, ← dropHead_eq queue]
  dsimp only
  rw [if_pos command, if_neg stays]

theorem commandHandover_taken (handed : s.handsOver f = true) :
    exec .commandHandover s = .next (takeCommand f (answerOf f) (headTaken rest s)) := by
  rw [exec, execCommandHandover, unlessHeld_acts acts, freeHead_command queue command idle running, ← dropHead_eq queue]
  dsimp only
  rw [if_pos command, if_pos handed]

/-- COMMAND_HANDOVER does what the row of the named command does (log entry 12). -/
theorem commandHandover_named {code : Nat} {answer : Frame → State → Answer} (handed : s.handsOver f = true)
    (named : f.code = code) (answers : answerOf f = answer f) :
    exec .commandHandover s = unlessHeld s (handOverCode code answer s) := by
  rw [commandHandover_taken acts queue command idle running handed, unlessHeld_acts acts, handOverCode,
    freeHead_command queue command idle running, answers, ← dropHead_eq queue]
  dsimp only
  rw [if_pos ⟨handed, named⟩]

end

/-- R169 line 1: a command from source 0 or from the node's own address is discarded. -/
theorem takeCommand_discarded {s : State} {f : Frame} {answer : State → Answer}
    (source : f.source = 0 ∨ f.source = s.nc.strap.toNat) : takeCommand f answer s = s := if_pos source

/-- R169 line 2: a command from a zone node is not executed. -/
theorem takeCommand_notAllowed {s : State} {f : Frame} {answer : State → Answer}
    (known : ¬ (f.source = 0 ∨ f.source = s.nc.strap.toNat)) (zone : f.source ≤ 60) :
    takeCommand f answer s = offerReply f (reject .notAllowed s) := (if_neg known).trans (if_pos zone)

theorem takeCommand_executed {s : State} {f : Frame} {answer : State → Answer}
    (known : ¬ (f.source = 0 ∨ f.source = s.nc.strap.toNat)) (monitor : 61 ≤ f.source) :
    takeCommand f answer s = offerReply f (answer s) := (if_neg known).trans (if_neg (by omega))

theorem answerOf_unknown {f : Frame} (unknown : byteAt f.payload 0 = 0 ∨ 7 ≤ byteAt f.payload 0) :
    answerOf f = reject .unknown := by
  have code : f.code = 0 ∨ 7 ≤ f.code := unknown
  unfold answerOf
  rw [if_neg (by omega), if_neg (by omega), if_neg (by omega), if_neg (by omega), if_neg (by omega), if_neg (by omega)]

/-- Settles O52, by the order in which R169 judges a command that R83 hands over. -/
theorem handoverDecidesCommand : Obligations.HandoverDecidesCommand := by
  intro s f rest acts queue command idle running own dropped handed answered
  have taken (h : handed) : exec .commandHandover s = .next (takeCommand f (answerOf f) (headTaken rest s)) :=
    commandHandover_taken acts queue command idle running ((handsOver_iff command).mpr h)
  have rejected (status : Status) : offerReply f (reject status (headTaken rest s)) = answered status.code :=
    offerReply_headTaken rfl rfl idle
  refine ⟨fun stays => ?_, fun h source => ?_, fun h known notOwn zone => ?_, fun h notOwn monitor unknown => ?_,
    fun h => ?_⟩
  · exact commandHandover_dropped acts queue command idle running (mt (handsOver_iff command).mp stays)
  · rw [taken h, takeCommand_discarded (s := headTaken rest s) source]
    rfl
  · rw [taken h, takeCommand_notAllowed (s := headTaken rest s) (not_or_intro known notOwn) zone, rejected]
    rfl
  · rw [taken h, takeCommand_executed (s := headTaken rest s) (not_or_intro (by omega) notOwn) monitor,
      answerOf_unknown unknown, rejected]
    rfl
  · have row {code : Nat} {answer : Frame → State → Answer} (named : f.code = code) (answers : answerOf f = answer f) :=
      commandHandover_named acts queue command idle running ((handsOver_iff command).mpr h) named answers
    refine ⟨fun named => row named ?_, fun named => row named ?_, fun named => row named ?_, fun named => row named ?_,
      fun named => row named ?_, fun named => row named ?_⟩ <;>
    · rw [answerOf, Frame.code, named]
      rfl

/-! ## IDENTIFY -/

/-- Both bytes of a 16-bit word, high byte first. -/
theorem be16_toNat (w : BitVec 16) : be16 w.toNat = [w.extractLsb' 8 8, w.extractLsb' 0 8] := by
  have high : byteOf (w.toNat / 256) = w.extractLsb' 8 8 :=
    BitVec.eq_of_toNat_eq (by simp [Nat.shiftRight_eq_div_pow])
  have low : byteOf w.toNat = w.extractLsb' 0 8 := BitVec.eq_of_toNat_eq (by simp)
  rw [be16, high, low]

/-- The seven bytes of R181, where the node has a state. -/
theorem answerIdentify_data {s : State} {n : NodeState} (state : s.nc.state = some n) :
    (answerIdentify s).data =
      [0x06, 0x40, 2, s.nc.strap.setWidth 8, s.nc.checkValue.extractLsb' 8 8, s.nc.checkValue.extractLsb' 0 8, n.shown,
        s.lc.mode.shown] := by
  have address : byteOf s.ownAddress = s.nc.strap.setWidth 8 :=
    BitVec.eq_of_toNat_eq (by rw [byteOf_toNat, State.ownAddress, BitVec.toNat_setWidth])
  have node : byteOf (stateCodeOf s.nc.state) = n.shown := by
    rw [state]
    cases n <;> rfl
  have mode : byteOf (modeCode s.lc.mode) = s.lc.mode.shown := by cases s.lc.mode <;> rfl
  rw [answerIdentify, address, node, mode, be16_toNat]
  rfl

/-- Settles O53: the reply to a command of the monitor, with the bytes of R181. -/
theorem identifyReportsNode : Obligations.IdentifyReportsNode := by
  intro s f rest n head state
  have data := answerIdentify_data (s := headTaken rest s) state
  rw [exec, execIdentify, unlessHeld_acts head.1, handOverCode_at _ head,
    offerReply_headTaken (s := s) (rest := rest) rfl rfl (commandAtHead_idle head), data]
  rfl

/-! ## RESTART -/

/-- A reply that a pending restart waits for makes it due at once where Listen-only drops the reply (R90, R165). -/
theorem offerReply_restart {f : Frame} {a : Answer} (restart : a.restart = true) (pending : a.state.nc.restart = .pending)
    (notDue : a.state.nc.restartDue = false) (idle : a.state.cu.current = none) :
    offerReply f a =
      { a.state with
        nc := { a.state.nc with restartDue := decide (a.state.lc.mode = .listenOnly) }
        cu :=
          { a.state.cu with
            current := replyWaiting a.state.lc.mode f a.status.code a.data true a.stream } } := by
  obtain ⟨t, status, data, _, stream⟩ := a
  obtain rfl : _ = true := restart
  unfold offerReply replyWaiting
  dsimp only at pending notDue idle ⊢
  by_cases mode : t.lc.mode = .listenOnly
  · rw [if_pos mode, if_pos mode, if_pos rfl, restartReplyGone, if_pos pending, decide_eq_true mode, ← idle]
  · rw [if_neg mode, if_neg mode, decide_eq_false mode, ← notDue]
    rfl

theorem answerRestart_invalid {s : State} (invalid : s.strapValid = false) : answerRestart s = reject .refused s := by
  rw [answerRestart, invalid, if_neg Bool.false_ne_true]

theorem answerRestart_again {s : State} (valid : s.strapValid = true) (pending : s.nc.restart = .pending) :
    answerRestart s = accept [] s := by
  rw [answerRestart, if_pos valid, pending, if_neg nofun]

theorem answerRestart_first {s : State} (valid : s.strapValid = true) (none : s.nc.restart = .none) :
    answerRestart s =
      { accept [] { s with nc := { s.nc with restart := .pending, restartDue := false } } with restart := true } := by
  rw [answerRestart, if_pos valid, if_pos none]

/-- Settles O57, by the three answers of R175 and the reply that the restart waits for. -/
theorem restartBecomesPending : Obligations.RestartBecomesPending := by
  intro s f rest head own answered
  have idle := commandAtHead_idle head
  have valid : (headTaken rest s).strapValid = true ↔ 1 ≤ own ∧ own ≤ 60 := by
    rw [State.strapValid, Bool.and_eq_true, decide_eq_true_iff, decide_eq_true_iff]
    rfl
  rw [exec, execRestart, unlessHeld_acts head.1, handOverCode_at _ head]
  refine ⟨fun low high none => ?_, fun low high pending => ?_, fun outside => ?_⟩
  · rw [answerRestart_first (valid.mpr ⟨low, high⟩) none, offerReply_restart rfl rfl rfl idle]
    rfl
  · rw [answerRestart_again (valid.mpr ⟨low, high⟩) pending, offerReply_headTaken rfl rfl idle]
    rfl
  · rw [answerRestart_invalid (Bool.eq_false_iff.mpr (mt valid.mp (by omega))), offerReply_headTaken rfl rfl idle]
    rfl

/-! ## REPLY_ENQUEUE -/

/-- When a waiting reply may enter the queue (R88, R90). -/
theorem mayEnqueue_iff (s : State) :
    (s.lc.answers ∧ s.lc.sharedFree ∧ s.restartTakesOver = false) ↔
      s.lc.mode ≠ .listenOnly ∧ (s.lc.txQueue.filter fun e => e.kind != .beacon).length < 3 ∧
        s.nc.restartDue = false ∧ s.nc.restart ≠ .inProgress := by
  have answers : s.lc.answers = true ↔ s.lc.mode ≠ .listenOnly := by simp [Line.answers]
  have free : s.lc.sharedFree = true ↔ (s.lc.txQueue.filter fun e => e.kind != .beacon).length < 3 := decide_eq_true_iff
  have restart : s.restartTakesOver = false ↔ s.nc.restartDue = false ∧ s.nc.restart ≠ .inProgress := by
    simp [State.restartTakesOver, State.restarting]
  rw [answers, free, restart]

/-- A reply joins an ordered queue behind the entries of priority 0 and 1 (R88), and its stream begins (R176). -/
theorem enqueueReply_eq {s : State} (c : Current) (sorted : s.lc.txQueue.Pairwise fun a b => a.priority ≤ b.priority) :
    enqueueReply c s =
      { s with
        lc :=
          { s.lc with
            txQueue :=
              s.lc.txQueue.filter (fun e => decide (e.priority ≤ 1)) ++
                .reply c.reply.dest c.reply.payload c.reply.restart ::
                  s.lc.txQueue.filter (fun e => decide (1 < e.priority)) }
        cu := { current := none, stream := c.reply.stream.or s.cu.stream } } := by
  have stream : (if c.reply.stream.isSome then c.reply.stream else s.cu.stream) = c.reply.stream.or s.cu.stream := by
    cases c.reply.stream <;> rfl
  rw [enqueueReply, stream, insertEntry_split _ sorted]
  rfl

/-- Settles O59, by when a reply may enter the queue and the place it takes there. -/
theorem replyEntersQueue : Obligations.ReplyEntersQueue := by
  intro s c acts waits sorted free may
  rw [exec, execReplyEnqueue, unlessHeld_acts acts, waits]
  dsimp only
  refine ⟨fun mays => ?_, fun mayNot => ?_⟩
  · rw [if_pos ((mayEnqueue_iff s).mpr mays), enqueueReply_eq c sorted]
  · rw [if_neg (mt (mayEnqueue_iff s).mp mayNot)]

end Sys2Proof.Machine
end

section
/-! SUPPORT. BEACON_APPLY (R82): what a beacon makes of the entry of its source, of a table with room, and of a full table
(R101 to R104). -/

namespace Sys2Proof.Machine

/-! ## The entry heard longest ago -/

theorem heardLongestAgo_none {l : List Entry} (h : heardLongestAgo l = none) : l = [] := by
  cases l with
  | nil => rfl
  | cons x l =>
    unfold heardLongestAgo at h
    split at h
    · cases h
    · split_ifs at h

theorem heardLongestAgo_le {l : List Entry} {old : Entry} (h : heardLongestAgo l = some old) :
    ∀ e ∈ l, old.heard ≤ e.heard := by
  induction l generalizing old with
  | nil => nofun
  | cons x l ih =>
    unfold heardLongestAgo at h
    split at h
    · rename_i none
      obtain rfl := Option.some.inj h
      rw [heardLongestAgo_none none]
      simp
    · rename_i other rest
      have least := ih rest
      split_ifs at h with earlier <;> obtain rfl := Option.some.inj h
      · exact List.forall_mem_cons.mpr ⟨earlier.le, least⟩
      · exact List.forall_mem_cons.mpr ⟨le_rfl, fun e mem => (Nat.not_lt.mp earlier).trans (least e mem)⟩

/-- The earliest of those heard longest ago: what lies before it in the list was heard after it (R104). -/
theorem heardLongestAgo_split {l : List Entry} {old : Entry} (h : heardLongestAgo l = some old) :
    ∃ before after, l = before ++ old :: after ∧ (∀ e ∈ before, old.heard < e.heard) ∧
      ∀ e ∈ after, old.heard ≤ e.heard := by
  have least := heardLongestAgo_le h
  induction l with
  | nil => cases h
  | cons x l ih =>
    obtain ⟨-, leastRest⟩ := List.forall_mem_cons.mp least
    unfold heardLongestAgo at h
    split at h
    · obtain rfl := Option.some.inj h
      exact ⟨[], l, rfl, nofun, leastRest⟩
    · rename_i other rest
      split_ifs at h with earlier <;> obtain rfl := Option.some.inj h
      · obtain ⟨before, after, rfl, later, notEarlier⟩ := ih rest leastRest
        exact ⟨x :: before, after, rfl, List.forall_mem_cons.mpr ⟨earlier, later⟩, notEarlier⟩
      · exact ⟨[], l, rfl, nofun, leastRest⟩

/-- The entry that a newcomer replaces, in its place in the whole table (R104). -/
theorem replaceable_split {s : State} {old : Entry} (h : s.replaceable = some old) :
    ∃ before after, s.nt = before ++ old :: after ∧ s.shares old = false ∧
      (∀ e ∈ before, s.shares e = false → old.heard < e.heard) ∧
      ∀ e ∈ after, s.shares e = false → old.heard ≤ e.heard := by
  obtain ⟨before, after, candidates, later, notEarlier⟩ := heardLongestAgo_split h
  obtain ⟨front, back, table, rfl, behind⟩ := List.filter_eq_append_iff.mp candidates
  obtain ⟨sharing, tail, rfl, share, candidate, rfl⟩ := List.filter_eq_cons_iff.mp behind
  refine ⟨front ++ sharing, tail, by rw [table, List.append_assoc], by simpa using candidate, fun e mem strange => ?_,
    fun e mem strange => notEarlier e (List.mem_filter.mpr ⟨mem, by simpa using strange⟩)⟩
  rcases List.mem_append.mp mem with mem | mem
  · exact later e (List.mem_filter.mpr ⟨mem, by simpa using strange⟩)
  · exact absurd (by simpa using strange) (share e mem)

/-- In a table whose entries all share an operator with the node none is replaced (R104). -/
theorem replaceable_none_iff (s : State) : s.replaceable = none ↔ ∀ e ∈ s.nt, s.shares e = true := by
  have empty : s.replaceable = none ↔ (s.nt.filter fun e => !s.shares e) = [] :=
    ⟨heardLongestAgo_none, fun h => by rw [State.replaceable, h]; rfl⟩
  rw [empty, List.filter_eq_nil_iff]
  simp

/-! ## NBL -/

theorem clearNbl_silent {e : Entry} (silent : e.age = .silent) (s : State) :
    (clearNbl e s).fr.isActive ⟨.nbl, none, some e.address⟩ = false := by
  rw [clearNbl, if_pos silent]
  exact clear_inactive _ _ _

theorem clearNbl_notSilent {e : Entry} (heard : e.age ≠ .silent) (s : State) : clearNbl e s = s := if_neg heard

/-! ## The beacon applied -/

section

variable {s : State} {address : Nat} (b : BeaconContent)

theorem entryOf_none (unknown : ∀ e ∈ s.nt, e.address ≠ address) : entryOf address s.nt = none :=
  List.find?_eq_none.mpr fun e mem => by simpa using unknown e mem

/-- A beacon of a source with an entry updates it (R102). -/
theorem applyBeacon_known {e : Entry} (known : entryOf address s.nt = some e) :
    applyBeacon address b s =
      clearNbl e { s with nt := changeEntry address (Entry.heardAgain b s.now) s.nt } := by
  rw [applyBeacon, known]

/-- A beacon of a new source creates an entry where the table has room (R103). -/
theorem applyBeacon_created (unknown : ∀ e ∈ s.nt, e.address ≠ address) (room : s.nt.length < 16) :
    applyBeacon address b s = { s with nt := s.nt ++ [newEntry address b s.now] } := by
  rw [applyBeacon, entryOf_none unknown]
  exact if_pos room

theorem applyBeacon_full (unknown : ∀ e ∈ s.nt, e.address ≠ address) (full : s.nt.length = 16)
    (kept : s.replaceable = none) : applyBeacon address b s = s := by
  rw [applyBeacon, entryOf_none unknown, kept]
  exact if_neg (by rw [full]; decide)

/-- In a full table a beacon of a new source takes the place of the replaceable entry (R104). -/
theorem applyBeacon_replaces {old : Entry} (unknown : ∀ e ∈ s.nt, e.address ≠ address) (full : s.nt.length = 16)
    (replaced : s.replaceable = some old) :
    applyBeacon address b s =
      clearNbl old { s with nt := removeEntry old.address s.nt ++ [newEntry address b s.now] } := by
  rw [applyBeacon, entryOf_none unknown, replaced]
  exact if_neg (by rw [full]; decide)

/-- A beacon applied touches the Neighbour Table and the Fault Log alone. -/
theorem applyBeacon_frame (s : State) (address : Nat) :
    applyBeacon address b s = { s with nt := (applyBeacon address b s).nt, fr := (applyBeacon address b s).fr } := by
  apply State.ext_blocks <;> simp

end

/-! ## BEACON_APPLY -/

/-- The beacons that R82 applies. -/
theorem beaconAccepted_iff (s : State) (f : Frame) :
    s.beaconAccepted f = true ↔ 1 ≤ f.source ∧ f.source ≤ 60 ∧ f.source ≠ s.nc.strap.toNat ∧ f.dest = 0 ∧
      2 ≤ f.payload.length ∧ byteAt f.payload 1 % 8 ≤ 6 ∧
        f.payload.length = 4 + 4 * (byteAt f.payload 1 % 8) := by
  have parts : s.beaconAccepted f = true ↔ 1 ≤ f.source ∧ f.source ≤ 60 ∧ f.source ≠ s.nc.strap.toNat ∧ f.dest = 0 ∧
      2 ≤ f.payload.length ∧ slotCountOf f.payload ≤ 6 ∧ f.payload.length = 4 + 4 * slotCountOf f.payload := by
    simp [State.beaconAccepted, State.ownAddress, beaconShapeOk, and_assoc]
  exact parts

section

variable {s : State} {f : Frame} {rest : List Frame}
  (acts : s.acts) (queue : s.lc.rxQueue = f :: rest) (beacon : f.kind = 1) (idle : s.cu.current = none)

include acts queue beacon idle

theorem beaconApply_held (accepted : s.beaconAccepted f = true) (round : s.su.round.isSome = true) :
    exec .beaconApply s = .next s := by
  rw [exec, execBeaconApply, unlessHeld_acts acts,
    freeHead_of_held queue ((headHeld_iff idle).mpr ⟨beacon, accepted, round⟩)]

variable (running : s.nc.restart ≠ .inProgress)
include running

theorem beaconApply_dropped (strange : ¬ s.beaconAccepted f = true) :
    exec .beaconApply s = .next (headTaken rest s) := by
  have free : s.headHeld f = false := Bool.eq_false_iff.mpr fun held => by
    obtain ⟨-, accepted, -⟩ := (headHeld_iff idle).mp held
    exact strange accepted
  rw [exec, execBeaconApply, unlessHeld_acts acts, freeHead_of_free queue running free, ← dropHead_eq queue]
  dsimp only
  rw [if_pos beacon, if_neg strange]

theorem beaconApply_applied (accepted : s.beaconAccepted f = true) (round : s.su.round = none) :
    exec .beaconApply s = .next (headTaken rest (applyBeacon f.source (beaconContent f.payload) s)) := by
  have free : s.headHeld f = false := by
    simp [State.headHeld, idle, round]
  rw [exec, execBeaconApply, unlessHeld_acts acts, freeHead_of_free queue running free,
    ← dropHead_eq (f := f) (by rw [applyBeacon_lc]; exact queue)]
  dsimp only
  rw [if_pos beacon, if_pos accepted]

end

/-- Settles O41, by what R82 makes of the beacon and the three outcomes of one applied: updated, created, replaced or not. -/
theorem beaconUpdatesNeighbourTable : Obligations.BeaconUpdatesNeighbourTable := by
  intro s f rest acts queue beacon idle running accepted b fresh shares
  have accepts : s.beaconAccepted f = true ↔ accepted := beaconAccepted_iff s f
  have sharing (e : Entry) : s.shares e = true ↔ shares e := shares_iff s e
  have strange (e : Entry) : s.shares e = false ↔ ¬ shares e := by rw [← sharing, Bool.not_eq_true]
  refine ⟨fun dropped => ?_, fun taken round => ?_, fun taken round => ?_⟩
  · exact beaconApply_dropped acts queue beacon idle running (mt accepts.mp dropped)
  · exact beaconApply_held acts queue beacon idle (accepts.mpr taken) round
  · refine ⟨headTaken rest (applyBeacon f.source b s),
      beaconApply_applied acts queue beacon idle running (accepts.mpr taken) round, ?_, ?_, fun e known => ?_,
      fun unknown room => ?_, fun unknown full all => ?_, fun unknown full some => ?_⟩
    · rw [headTaken, applyBeacon_lc]
    · rw [applyBeacon_frame]
      rfl
    · rw [applyBeacon_known b known]
      refine ⟨clearNbl_nt _ e, fun silent => clearNbl_silent silent _, fun heard => ?_⟩
      rw [clearNbl_notSilent heard]
      rfl
    · rw [applyBeacon_created b unknown room]
      exact ⟨rfl, rfl⟩
    · rw [applyBeacon_full b unknown full ((replaceable_none_iff s).mpr fun e mem => (sharing e).mpr (all e mem))]
      exact ⟨rfl, rfl⟩
    · obtain ⟨candidate, mem, unshared⟩ := some
      cases replaced : s.replaceable with
      | none => exact absurd ((sharing _).mp ((replaceable_none_iff s).mp replaced candidate mem)) unshared
      | some old =>
        obtain ⟨before, after, table, oldStrange, later, notEarlier⟩ := replaceable_split replaced
        rw [applyBeacon_replaces b unknown full replaced]
        exact ⟨before, old, after, table, (strange old).mp oldStrange,
          fun e mem other => later e mem ((strange e).mpr other),
          fun e mem other => notEarlier e mem ((strange e).mpr other), clearNbl_nt _ old,
          fun silent => clearNbl_silent silent _⟩

end Sys2Proof.Machine
end

section
/-! SUPPORT. What leaves the node's own address as it was: the strap bits are read at FULL_RESET alone (R156). -/

namespace Sys2Proof.Machine

variable (s : State)

/-! ## Faults and changes of the node state -/

@[simp] theorem enterWithdrawn_strap : (enterWithdrawn s).nc.strap = s.nc.strap := by
  simp [enterWithdrawn]

@[simp] theorem withdraw_strap : (withdraw s).nc.strap = s.nc.strap := by
  unfold withdraw
  split_ifs <;> simp

@[simp] theorem raiseFault_strap (k : Key) (x : Option (Int × Int)) : (raiseFault k x s).nc.strap = s.nc.strap := by
  unfold raiseFault
  dsimp only
  split_ifs <;> simp

@[simp] theorem enterJoining_strap : (enterJoining s).nc.strap = s.nc.strap := by
  unfold enterJoining
  dsimp only
  split <;> simp

@[simp] theorem enterServing_strap : (enterServing s).nc.strap = s.nc.strap := by
  simp [enterServing]

@[simp] theorem enterUnconfigured_strap : (enterUnconfigured s).nc.strap = s.nc.strap := by
  simp [enterUnconfigured]

/-! ## Measurement frames -/

@[simp] theorem tripSlot_strap (g : Setting) (a : State) (n : Nat) (k : Slot) :
    (tripSlot g a n k s).nc.strap = s.nc.strap := by
  unfold tripSlot
  dsimp only
  split_ifs <;> simp

@[simp] theorem testSlot_strap (g : Setting) (a : State) (m : MeasFrame) (k : Slot) :
    (testSlot g a m s k).nc.strap = s.nc.strap := by
  unfold testSlot
  dsimp only
  split_ifs <;> simp

@[simp] theorem testAntenna_strap (g : Setting) (a : State) (m : MeasFrame) :
    (testAntenna g a m s).nc.strap = s.nc.strap := by
  unfold testAntenna latchAntenna
  split_ifs <;> simp

@[simp] theorem protect_strap (m : MeasFrame) : (protect m s).nc.strap = s.nc.strap := by
  unfold protect
  dsimp only
  split <;> simp [Slot.all]

@[simp] theorem reportDerate_strap (g : Setting) (x y : Nat) (t : Int) :
    (reportDerate g x y t s).nc.strap = s.nc.strap := by
  unfold reportDerate
  split_ifs <;> simp

@[simp] theorem reportMute_strap (g : Setting) (x y : Bool) (t : Int) :
    (reportMute g x y t s).nc.strap = s.nc.strap := by
  unfold reportMute
  split_ifs <;> simp

@[simp] theorem thermal_strap (g : Setting) (t : Int) : (thermal g t s).nc.strap = s.nc.strap := by
  unfold thermal
  dsimp only
  split_ifs <;> simp

@[simp] theorem thermalWork_strap (m : MeasFrame) : (thermalWork m s).nc.strap = s.nc.strap := by
  unfold thermalWork
  split <;> simp

@[simp] theorem goodFrame_strap (m : MeasFrame) : (goodFrame m s).nc.strap = s.nc.strap := by
  simp [goodFrame]

/-! ## The line -/

@[simp] theorem restartReplyGone_strap : (restartReplyGone s).nc.strap = s.nc.strap := by
  unfold restartReplyGone
  split_ifs <;> rfl

@[simp] theorem reportLeft_strap (heard : Bool) (e : TxEntry) : (reportLeft heard s e).nc.strap = s.nc.strap := by
  cases e with
  | marker urgent => rfl
  | reply dest payload restart => cases restart <;> simp [reportLeft]
  | stream dest payload final => simp [reportLeft]

@[simp] theorem removeAttempted_strap (k : EntryKind) (heard : Bool) :
    (removeAttempted k heard s).nc.strap = s.nc.strap := by
  unfold removeAttempted
  split <;> simp

@[simp] theorem emptyForListenOnly_strap : (emptyForListenOnly s).nc.strap = s.nc.strap := by
  unfold emptyForListenOnly
  dsimp only
  split_ifs <;> simp

@[simp] theorem enterListenOnly_strap : (enterListenOnly s).nc.strap = s.nc.strap := by
  simp [enterListenOnly]

@[simp] theorem probeFailed_strap : (probeFailed s).nc.strap = s.nc.strap := by
  simp [probeFailed]

@[simp] theorem duplicateAddress_strap : (duplicateAddress s).nc.strap = s.nc.strap := by
  unfold duplicateAddress
  split <;> simp

@[simp] theorem recordBeacon_strap (heard : Bool) : (recordBeacon heard s).nc.strap = s.nc.strap := by
  unfold recordBeacon
  dsimp only
  split_ifs <;> simp

@[simp] theorem appendOutcome_strap (o : LineOutcome) : (appendOutcome o s).nc.strap = s.nc.strap := by
  unfold appendOutcome
  dsimp only
  split_ifs <;> simp

@[simp] theorem offer_strap (f : Frame) : (offer f s).nc.strap = s.nc.strap := by
  unfold offer overrun
  split_ifs <;> simp

@[simp] theorem checkTwin_strap (f : Frame) : (checkTwin f s).nc.strap = s.nc.strap := by
  unfold checkTwin
  split_ifs <;> simp

end Sys2Proof.Machine
end

section
/-! SUPPORT. What the work on the Neighbour Table keeps of its law: an entry's ranges (R99, R101), the table with an entry
changed, removed or added, and a beacon applied (R101 to R104). -/

namespace Sys2Proof.Machine

/-! ## Slot lists -/

/-- A slot list within the ranges of R99: at most 6 entries, each operator once. -/
def slotListSound (l : List NbSlot) : Prop :=
  l.length ≤ 6 ∧ (l.map NbSlot.operator).Nodup ∧
    ∀ n ∈ l, 1 ≤ n.operator ∧ n.operator ≤ 15 ∧ n.sector ≤ 255 ∧ n.load ≤ 1000 ∧ n.bias ≤ 12 ∧ n.fill ≤ 6

theorem entry_sound_iff (own : Nat) (e : Entry) :
    e.sound own ↔ (1 ≤ e.address ∧ e.address ≤ 60 ∧ e.address ≠ own) ∧ (1 ≤ e.period ∧ e.period ≤ 16) ∧
      slotListSound e.slots := by
  simp only [Entry.sound, slotListSound, and_assoc]

theorem slotListSound_nil : slotListSound [] := ⟨Nat.zero_le _, List.nodup_nil, nofun⟩

/-- Off flags set leave a slot list within its ranges (R102). -/
theorem slotListSound_off {l : List NbSlot} (h : slotListSound l) :
    slotListSound (l.map fun n => { n with off := true }) := by
  obtain ⟨length, nodup, ranges⟩ := h
  refine ⟨by rwa [List.length_map], ?_, List.forall_mem_map.mpr ranges⟩
  rwa [List.map_map]

/-- A slot entry as carried has its ranges after the clamps of R101, but for operator 0 (R180). -/
theorem clampSlotEntry_ranges (bytes : List Byte) (i : Nat) :
    let n := clampSlotEntry (slotEntryAt bytes i)
    n.operator ≤ 15 ∧ n.sector ≤ 255 ∧ n.load ≤ 1000 ∧ n.bias ≤ 12 ∧ n.fill ≤ 6 := by
  have first := byteAt_le bytes i
  exact ⟨show byteAt bytes i / 16 ≤ 15 by omega, byteAt_le bytes (i + 1), min_le_left _ _, min_le_left _ _,
    min_le_left _ _⟩

theorem keepFirst_sublist (seen : List Nat) (l : List NbSlot) : (keepFirst seen l).Sublist l := by
  induction l generalizing seen with
  | nil => exact .slnil
  | cons n l ih =>
    unfold keepFirst
    split_ifs
    exacts [(ih seen).cons n, (ih (n.operator :: seen)).cons_cons n]

/-- What is kept names operators other than 0, none of those already taken (R101). -/
theorem keepFirst_fresh {seen : List Nat} {l : List NbSlot} {n : NbSlot} (mem : n ∈ keepFirst seen l) :
    n.operator ≠ 0 ∧ n.operator ∉ seen := by
  induction l generalizing seen with
  | nil => cases mem
  | cons x l ih =>
    unfold keepFirst at mem
    split_ifs at mem with passed
    · exact ih mem
    · rcases List.mem_cons.mp mem with rfl | mem
      · exact not_or.mp passed
      · obtain ⟨named, fresh⟩ := ih mem
        exact ⟨named, fun taken => fresh (List.mem_cons_of_mem _ taken)⟩

theorem keepFirst_nodup (seen : List Nat) (l : List NbSlot) : ((keepFirst seen l).map NbSlot.operator).Nodup := by
  induction l generalizing seen with
  | nil => exact List.nodup_nil
  | cons x l ih =>
    unfold keepFirst
    split_ifs
    · exact ih seen
    · refine List.nodup_cons.mpr ⟨fun again => ?_, ih _⟩
      obtain ⟨n, mem, same⟩ := List.mem_map.mp again
      exact (keepFirst_fresh mem).2 (same ▸ List.mem_cons_self)

/-! ## Beacons -/

/-- A beacon's content within the ranges of R99. -/
def BeaconContent.sound (b : BeaconContent) : Prop := (1 ≤ b.period ∧ b.period ≤ 16) ∧ slotListSound b.slots

/-- A payload of at most 6 slots is read within the ranges of R99, by the clamps and the rejections of R101 and R102. -/
theorem beaconContent_sound {payload : List Byte} (few : slotCountOf payload ≤ 6) : (beaconContent payload).sound := by
  refine ⟨clampNat_bounds (by decide) _, ?_, keepFirst_nodup _ _, fun n mem => ?_⟩
  · refine (keepFirst_sublist _ _).length_le.trans ?_
    rwa [List.length_map, List.length_range]
  · obtain ⟨i, -, rfl⟩ := List.mem_map.mp ((keepFirst_sublist _ _).subset mem)
    exact ⟨Nat.pos_of_ne_zero (keepFirst_fresh mem).1, clampSlotEntry_ranges payload (4 + 4 * i)⟩

theorem heardAgain_sound {own now : Nat} {b : BeaconContent} {e : Entry} (content : b.sound) (h : e.sound own) :
    (e.heardAgain b now).sound own := by
  rw [entry_sound_iff] at h ⊢
  obtain ⟨address, -, slots⟩ := h
  obtain ⟨period, brought⟩ := content
  refine ⟨address, period, ?_⟩
  unfold Entry.heardAgain
  dsimp only
  split_ifs
  exacts [slotListSound_off slots, brought]

theorem newEntry_sound {own now address : Nat} {b : BeaconContent} (content : b.sound)
    (station : 1 ≤ address ∧ address ≤ 60 ∧ address ≠ own) : (newEntry address b now).sound own := by
  obtain ⟨period, brought⟩ := content
  refine (entry_sound_iff _ _).mpr ⟨station, period, ?_⟩
  unfold newEntry
  dsimp only
  split_ifs
  exacts [slotListSound_nil, brought]

/-! ## The table -/

/-- What the law says of a table in a node with an address of its own (R98, R99). -/
def tableSound (own : Nat) (nt : List Entry) : Prop :=
  nt.length ≤ 16 ∧ (nt.map Entry.address).Nodup ∧ ∀ e ∈ nt, e.sound own

theorem neighbourLaw_iff (s : State) : NeighbourLaw s ↔ tableSound s.nc.strap.toNat s.nt := .rfl

section
variable {own address : Nat} {nt : List Entry}

theorem tableSound_nil : tableSound own [] := ⟨Nat.zero_le _, List.nodup_nil, nofun⟩

theorem changeEntry_tableSound {f : Entry → Entry} (names : ∀ e, (f e).address = e.address)
    (sound : ∀ e, e.sound own → (f e).sound own) (h : tableSound own nt) :
    tableSound own (changeEntry address f nt) := by
  obtain ⟨length, nodup, entries⟩ := h
  have addresses : (changeEntry address f nt).map Entry.address = nt.map Entry.address := by
    rw [changeEntry, List.map_map]
    refine List.map_congr_left fun e _ => ?_
    rw [Function.comp_apply]
    split_ifs
    exacts [names e, rfl]
  refine ⟨by rwa [changeEntry, List.length_map], by rwa [addresses], List.forall_mem_map.mpr fun e mem => ?_⟩
  split_ifs
  exacts [sound e (entries e mem), entries e mem]

theorem removeEntry_tableSound (h : tableSound own nt) : tableSound own (removeEntry address nt) := by
  obtain ⟨length, nodup, entries⟩ := h
  have part : (removeEntry address nt).Sublist nt := List.filter_sublist
  exact ⟨part.length_le.trans length, nodup.sublist (part.map _), fun e mem => entries e (part.subset mem)⟩

/-- An entry removed leaves a place free (R98). -/
theorem removeEntry_length_lt {e : Entry} (mem : e ∈ nt) : (removeEntry e.address nt).length < nt.length :=
  List.length_filter_lt_length_iff_exists.mpr ⟨e, mem, by simp⟩

/-- An entry with a new address takes a free place at the end (R103). -/
theorem append_tableSound {e : Entry} (h : tableSound own nt) (room : nt.length < 16)
    (unknown : ∀ o ∈ nt, o.address ≠ e.address) (sound : e.sound own) : tableSound own (nt ++ [e]) := by
  obtain ⟨-, nodup, entries⟩ := h
  refine ⟨by rwa [List.length_append, List.length_singleton], ?_, fun o mem => ?_⟩
  · rw [List.map_append, List.map_singleton]
    refine nodup.append (List.nodup_singleton _) (List.disjoint_singleton.mpr fun known => ?_)
    obtain ⟨o, mem, same⟩ := List.mem_map.mp known
    exact unknown o mem same
  · rcases List.mem_append.mp mem with mem | mem
    · exact entries o mem
    · rwa [List.mem_singleton.mp mem]

end

/-! ## The law -/

section
variable {s t : State}

/-- The node's own address and its Neighbour Table: all that the table's law reads (R98). -/
def State.census (s : State) : BitVec 6 × List Entry := (s.nc.strap, s.nt)

theorem census_iff : t.census = s.census ↔ t.nc.strap = s.nc.strap ∧ t.nt = s.nt := by
  rw [State.census, State.census, Prod.mk.injEq]

theorem neighbourLaw_of_census (same : t.census = s.census) (law : NeighbourLaw s) : NeighbourLaw t := by
  obtain ⟨strap, nt⟩ := census_iff.mp same
  rwa [neighbourLaw_iff, strap, nt]

theorem neighbourLaw_of_empty (empty : t.nt = []) : NeighbourLaw t := by
  rw [neighbourLaw_iff, empty]
  exact tableSound_nil

/-- A changed table with the clear of an NBL record: the law reads the table alone. -/
theorem clearNbl_neighbourLaw {e : Entry} {nt : List Entry} (h : tableSound s.nc.strap.toNat nt) :
    NeighbourLaw (clearNbl e { s with nt := nt }) := by
  rw [neighbourLaw_iff, clearNbl_nc, clearNbl_nt]
  exact h

/-- A beacon of another station that is applied keeps the law, whether it updates an entry, creates one, takes another's
place or changes nothing (R102 to R104). -/
theorem applyBeacon_neighbourLaw {address : Nat} {b : BeaconContent} (content : b.sound)
    (station : 1 ≤ address ∧ address ≤ 60 ∧ address ≠ s.nc.strap.toNat) (law : NeighbourLaw s) :
    NeighbourLaw (applyBeacon address b s) := by
  have table := (neighbourLaw_iff s).mp law
  have ⟨length, _, _⟩ := table
  have created : (newEntry address b s.now).sound s.nc.strap.toNat := newEntry_sound content station
  cases found : entryOf address s.nt with
  | some e =>
    rw [applyBeacon_known b found]
    exact clearNbl_neighbourLaw (changeEntry_tableSound (fun _ => rfl) (fun _ => heardAgain_sound content) table)
  | none =>
    have unknown (o : Entry) (mem : o ∈ s.nt) : o.address ≠ address := by
      simpa using List.find?_eq_none.mp found o mem
    rcases length.lt_or_eq with room | full
    · rw [applyBeacon_created b unknown room]
      exact append_tableSound table room unknown created
    · cases replaced : s.replaceable with
      | none => rwa [applyBeacon_full b unknown full replaced]
      | some old =>
        have mem : old ∈ s.nt := (List.mem_filter.mp (heardLongestAgo_mem replaced)).1
        rw [applyBeacon_replaces b unknown full replaced]
        exact clearNbl_neighbourLaw (append_tableSound (removeEntry_tableSound table)
          ((removeEntry_length_lt mem).trans_le length) (fun o kept => unknown o (List.mem_filter.mp kept).1) created)

end

end Sys2Proof.Machine
end

section
/-! SUPPORT. The commands that leave the node's own address and the Neighbour Table as they were. -/

namespace Sys2Proof.Machine

section
variable {s t u : State}

/-- A command under the reset gate leaves own address and table, if its effect does. -/
theorem census_of_unlessHeld (h : unlessHeld s u = .next t) (k : u.census = s.census) : t.census = s.census := by
  rcases unlessHeld_next s u with hn | hn <;> rw [hn] at h <;> obtain rfl := Host.Outcome.next.inj h
  exacts [rfl, k]

/-! ## Measurement, protection and the timers -/

theorem measurementFrame_census {bits : List Bool} (h : exec (.measurementFrame bits) s = .next t) :
    t.census = s.census := by
  refine census_of_unlessHeld h ?_
  split
  exacts [rfl, by simp [census_iff]]

theorem levelFrameSent_census (h : exec .levelFrameSent s = .next t) : t.census = s.census :=
  census_of_unlessHeld h rfl

theorem sampleTimerExpiry_census (h : exec .sampleTimerExpiry s = .next t) : t.census = s.census := by
  refine census_of_unlessHeld h ?_
  split
  exacts [rfl, rfl, by simp [census_iff]]

theorem holdOffExpiry_census {k : Slot} (h : exec (.holdOffExpiry k) s = .next t) : t.census = s.census := by
  refine census_of_unlessHeld h ?_
  split
  exacts [rfl, by simp [census_iff]]

theorem cleanRunExpiry_census {k : Slot} (h : exec (.cleanRunExpiry k) s = .next t) : t.census = s.census := by
  refine census_of_unlessHeld h ?_
  split
  exacts [rfl, rfl]

theorem roundTimerExpiry_census (h : exec .roundTimerExpiry s = .next t) : t.census = s.census := by
  refine census_of_unlessHeld h ?_
  split
  exacts [rfl, rfl]

theorem roundCommit_census (h : exec .roundCommit s = .next t) : t.census = s.census := by
  refine census_of_unlessHeld h ?_
  split
  exacts [rfl, by simp [census_iff]]

theorem joinTimerExpiry_census (h : exec .joinTimerExpiry s = .next t) : t.census = s.census := by
  refine census_of_unlessHeld h ?_
  split
  exacts [rfl, by simp [census_iff]]

theorem beaconTimerExpiry_census (h : exec .beaconTimerExpiry s = .next t) : t.census = s.census := by
  refine census_of_unlessHeld h ?_
  split
  exacts [rfl, rfl]

theorem coolDownExpiry_census (h : exec .coolDownExpiry s = .next t) : t.census = s.census := by
  refine census_of_unlessHeld h ?_
  split
  exacts [rfl, rfl]

/-! ## Frames received -/

theorem closeFrame_census : (closeFrame s).census = s.census := by
  unfold closeFrame
  split <;> rfl

theorem takeRest_census (f : Frame) (hold : Bool) : (takeRest f hold s).census = s.census := by
  unfold takeRest
  dsimp only
  split_ifs
  exacts [by simp [census_iff], rfl]

theorem receiveFrame_census (line : List Sample) (hold : Bool) : (receiveFrame line hold s).census = s.census := by
  unfold receiveFrame
  split
  exacts [rfl, rfl, by simp [census_iff, takeBadFrame], by simp [census_iff, takeFrame]]

theorem receiveRest_census (line : List Sample) (hold : Bool) : (receiveRest line hold s).census = s.census := by
  unfold receiveRest
  split
  exacts [rfl, rfl, closeFrame_census.trans rfl, closeFrame_census.trans (takeRest_census _ _)]

theorem peerFrameReceived_census {line : Arrival} {hold : Bool} (h : exec (.peerFrameReceived line hold) s = .next t) :
    t.census = s.census := by
  refine census_of_unlessHeld h ?_
  split_ifs
  exacts [receiveRest_census _ _, receiveFrame_census _ _, rfl, rfl, rfl]

/-! ## Sending -/

theorem transmissionStart_census {n : Nat} (h : exec (.transmissionStart n) s = .next t) : t.census = s.census := by
  refine census_of_unlessHeld h ?_
  dsimp only
  split_ifs
  · rfl
  · split <;> rfl
  · rfl
  · rfl

theorem arbitrationLost_census {position : Nat} {x : Sample} (h : exec (.arbitrationLost position x) s = .next t) :
    t.census = s.census := by
  refine census_of_unlessHeld h ?_
  split
  · rfl
  · split_ifs <;> rfl

theorem bitError_census {position : Nat} {x : Sample} {ack hold : Bool}
    (h : exec (.bitError position x ack hold) s = .next t) : t.census = s.census := by
  refine census_of_unlessHeld h ?_
  split
  · rfl
  · dsimp only
    split_ifs
    exacts [by simp [census_iff], rfl, rfl, rfl]

theorem transmitFrameEnd_census {ack hold : Bool} (h : exec (.transmitFrameEnd ack hold) s = .next t) :
    t.census = s.census := by
  refine census_of_unlessHeld h ?_
  split
  · rfl
  · rfl
  · rfl
  · dsimp only
    split_ifs <;> simp [census_iff]

theorem settle_census (a : Attempt) (queued : Bool) : (settle a queued s).census = s.census := by
  have removed (u : State) : (if queued then removeAttempted a.owner false u else u).census = u.census := by
    split_ifs
    exacts [by simp [census_iff], rfl]
  have mode (u : State) :
      (if a.probe && u.lc.mode == .probing then probeFailed u
      else if u.lc.mode == .normal && decide (Config.errorLimit ≤ u.lc.txErrors) then enterListenOnly u
      else u).census = u.census := by
    split_ifs
    exacts [by simp [census_iff], by simp [census_iff], rfl]
  unfold settle
  dsimp only
  split
  exacts [rfl, (mode _).trans (removed _)]

theorem bitErrorSettle_census {n : Nat} (h : exec (.bitErrorSettle n) s = .next t) : t.census = s.census := by
  refine census_of_unlessHeld h ?_
  split
  · rfl
  · rfl
  · rfl
  · dsimp only
    split_ifs
    exacts [settle_census _ _, rfl]

theorem breakDetected_census (h : exec .breakDetected s = .next t) : t.census = s.census := by
  refine census_of_unlessHeld h ?_
  dsimp only
  split_ifs <;> rfl

theorem breakEnd_census (h : exec .breakEnd s = .next t) : t.census = s.census := by
  refine census_of_unlessHeld h ?_
  split_ifs <;> rfl

theorem frameDrop_census (h : exec .frameDrop s = .next t) : t.census = s.census := by
  refine census_of_unlessHeld h ?_
  split
  · rfl
  · split_ifs <;> rfl

/-! ## Commands -/

theorem answerAckFaults_census (args : List Byte) : (answerAckFaults args s).state.census = s.census := by
  unfold answerAckFaults
  split_ifs <;> rfl

theorem answerClearTrip_census (args : List Byte) : (answerClearTrip args s).state.census = s.census := by
  unfold answerClearTrip
  split_ifs
  · rw [reject_state]
  · rw [accept_state]
    simp [census_iff]
  · rw [reject_state]

theorem answerRestore_census : (answerRestore s).state.census = s.census := by
  unfold answerRestore
  split_ifs
  exacts [rfl, by simp [census_iff], rfl]

theorem answerRestart_census : (answerRestart s).state.census = s.census := by
  unfold answerRestart
  split_ifs <;> rfl

theorem answerDump_census (f : Frame) : (answerDump f s).state.census = s.census := by
  unfold answerDump
  dsimp only
  split_ifs <;> rfl

theorem answerOf_census (f : Frame) : (answerOf f s).state.census = s.census := by
  unfold answerOf
  split_ifs
  exacts [rfl, answerAckFaults_census _, answerClearTrip_census _, answerRestore_census, answerRestart_census,
    answerDump_census f, rfl]

theorem offerReply_census (f : Frame) (a : Answer) : (offerReply f a).census = a.state.census := by
  unfold offerReply
  dsimp only
  split_ifs
  exacts [by simp [census_iff], rfl, rfl]

theorem takeCommand_census {f : Frame} {answer : State → Answer} (h : (answer s).state.census = s.census) :
    (takeCommand f answer s).census = s.census := by
  unfold takeCommand
  split_ifs
  exacts [rfl, offerReply_census f _, (offerReply_census f _).trans h]

theorem commandHandover_census (h : exec .commandHandover s = .next t) : t.census = s.census := by
  refine census_of_unlessHeld h ?_
  split
  · rfl
  · rename_i f _
    split_ifs
    exacts [takeCommand_census (s := dropHead s) (answerOf_census f), rfl, rfl]

/-- The six rows of a command's handover. -/
theorem handOver_census {code : Nat} {answer : Frame → State → Answer}
    (h : unlessHeld s (handOverCode code answer s) = .next t)
    (kept : ∀ (f : Frame) (u : State), (answer f u).state.census = u.census) : t.census = s.census := by
  refine census_of_unlessHeld h ?_
  unfold handOverCode
  split
  · rfl
  · rename_i f _
    split_ifs
    exacts [takeCommand_census (kept f (dropHead s)), rfl]

theorem replyEnqueue_census (h : exec .replyEnqueue s = .next t) : t.census = s.census := by
  refine census_of_unlessHeld h ?_
  split
  · rfl
  · split_ifs <;> rfl

theorem streamFrameBuild_census (h : exec .streamFrameBuild s = .next t) : t.census = s.census := by
  refine census_of_unlessHeld h ?_
  split
  · rfl
  · split_ifs <;> rfl

/-! ## The end of an image read -/

theorem goodImage_census (g : Setting) : (goodImage g s).census = s.census := by
  unfold goodImage raiseThermalAgain
  dsimp only
  split_ifs <;> simp [census_iff]

theorem badImage_census : (badImage s).census = s.census := by
  simp [badImage, census_iff]

theorem settingImageReadEnd_census {bytes : List Byte} (h : exec (.settingImageReadEnd bytes) s = .next t) :
    t.census = s.census := by
  refine census_of_unlessHeld h ?_
  split
  · rfl
  · dsimp only
    split
    · exact badImage_census.trans rfl
    · split_ifs
      exacts [(goodImage_census _).trans rfl, badImage_census.trans rfl]

end

end Sys2Proof.Machine
end

section
/-! THEOREM. Every step keeps the law of the Neighbour Table (R98, R99): a beacon applied and the deadlines keep it, the
starts leave the table empty, and every other command leaves it alone. -/

namespace Sys2Proof.Machine

section
variable {s t u : State}

theorem neighbourLaw_of_unlessHeld (law : NeighbourLaw s) (h : unlessHeld s u = .next t) (k : NeighbourLaw u) :
    NeighbourLaw t := by
  rcases unlessHeld_next s u with hn | hn <;> rw [hn] at h <;> obtain rfl := Host.Outcome.next.inj h
  exacts [law, k]

/-- A new age or a fallen Gone deadline of an entry keeps the law (R105 to R107). -/
theorem setAge_tableSound {own address : Nat} {nt : List Entry} (age : AgeState) (h : tableSound own nt) :
    tableSound own (changeEntry address (fun x => { x with age := age }) nt) :=
  changeEntry_tableSound (fun _ => rfl) (fun _ => id) h

theorem staleDeadline_neighbourLaw {a : Nat} (law : NeighbourLaw s) (h : exec (.staleDeadline a) s = .next t) :
    NeighbourLaw t := by
  refine neighbourLaw_of_unlessHeld law h ?_
  split
  · exact law
  · split_ifs
    exacts [setAge_tableSound .stale law, law]

theorem silentDeadline_neighbourLaw {a : Nat} (law : NeighbourLaw s) (h : exec (.silentDeadline a) s = .next t) :
    NeighbourLaw t := by
  refine neighbourLaw_of_unlessHeld law h ?_
  split
  · exact law
  · split_ifs
    · exact law
    · rw [neighbourLaw_iff, raiseFault_strap, raiseFault_nt]
      exact setAge_tableSound .silent law

theorem goneDeadline_neighbourLaw {a : Nat} (law : NeighbourLaw s) (h : exec (.goneDeadline a) s = .next t) :
    NeighbourLaw t := by
  refine neighbourLaw_of_unlessHeld law h ?_
  split
  · exact law
  · rename_i e _
    dsimp only
    split_ifs
    exacts [changeEntry_tableSound (fun _ => rfl) (fun _ => id) law,
      clearNbl_neighbourLaw (s := s.reach e.goneDue) (removeEntry_tableSound law), law]

theorem beaconApply_neighbourLaw (law : NeighbourLaw s) (h : exec .beaconApply s = .next t) : NeighbourLaw t := by
  refine neighbourLaw_of_unlessHeld law h ?_
  split
  · exact law
  · rename_i f _
    split_ifs with beacon accepted
    · obtain ⟨low, high, other, -, -, few, -⟩ := (beaconAccepted_iff s f).mp accepted
      exact applyBeacon_neighbourLaw (beaconContent_sound few) ⟨low, high, other⟩ law
    · exact law
    · exact law

theorem softRestartBegin_neighbourLaw (law : NeighbourLaw s) (h : exec .softRestartBegin s = .next t) :
    NeighbourLaw t := by
  refine neighbourLaw_of_unlessHeld law h ?_
  split_ifs
  exacts [neighbourLaw_of_empty rfl, law]

theorem fullReset_neighbourLaw {straps : BitVec 6} (h : exec (.fullReset straps) s = .next t) : NeighbourLaw t := by
  rw [exec_fullReset] at h
  obtain rfl := Host.Outcome.next.inj h
  split_ifs
  · exact neighbourLaw_of_empty rfl
  · refine neighbourLaw_of_empty ?_
    rw [invalidStrapPath, enterUnconfigured_nt, beginLine_nt, raiseFault_nt]
    rfl

theorem resetInputAsserted_neighbourLaw (h : exec .resetInputAsserted s = .next t) : NeighbourLaw t := by
  obtain rfl := Host.Outcome.next.inj h
  exact neighbourLaw_of_empty rfl

theorem exec_neighbourLaw {c : Instr} (law : NeighbourLaw s) (h : exec c s = .next t) : NeighbourLaw t := by
  have untouched (same : t.census = s.census) : NeighbourLaw t := neighbourLaw_of_census same law
  cases c with
  | fullReset straps => exact fullReset_neighbourLaw h
  | resetInputAsserted => exact resetInputAsserted_neighbourLaw h
  | softRestartBegin => exact softRestartBegin_neighbourLaw law h
  | beaconApply => exact beaconApply_neighbourLaw law h
  | staleDeadline address => exact staleDeadline_neighbourLaw law h
  | silentDeadline address => exact silentDeadline_neighbourLaw law h
  | goneDeadline address => exact goneDeadline_neighbourLaw law h
  | settingImageReadEnd bytes => exact untouched (settingImageReadEnd_census h)
  | measurementFrame bits => exact untouched (measurementFrame_census h)
  | levelFrameSent => exact untouched (levelFrameSent_census h)
  | sampleTimerExpiry => exact untouched (sampleTimerExpiry_census h)
  | holdOffExpiry slot => exact untouched (holdOffExpiry_census h)
  | cleanRunExpiry slot => exact untouched (cleanRunExpiry_census h)
  | roundTimerExpiry => exact untouched (roundTimerExpiry_census h)
  | roundCommit => exact untouched (roundCommit_census h)
  | joinTimerExpiry => exact untouched (joinTimerExpiry_census h)
  | beaconTimerExpiry => exact untouched (beaconTimerExpiry_census h)
  | coolDownExpiry => exact untouched (coolDownExpiry_census h)
  | peerFrameReceived line othersHold => exact untouched (peerFrameReceived_census h)
  | transmissionStart recessive => exact untouched (transmissionStart_census h)
  | arbitrationLost position readBack => exact untouched (arbitrationLost_census h)
  | bitError position readBack ack hold => exact untouched (bitError_census h)
  | transmitFrameEnd ack hold => exact untouched (transmitFrameEnd_census h)
  | bitErrorSettle recessive => exact untouched (bitErrorSettle_census h)
  | breakDetected => exact untouched (breakDetected_census h)
  | breakEnd => exact untouched (breakEnd_census h)
  | commandHandover => exact untouched (commandHandover_census h)
  | frameDrop => exact untouched (frameDrop_census h)
  | identify => exact untouched (handOver_census h fun _ _ => rfl)
  | ackFaults => exact untouched (handOver_census h fun _ _ => answerAckFaults_census _)
  | clearTrip => exact untouched (handOver_census h fun _ _ => answerClearTrip_census _)
  | restore => exact untouched (handOver_census h fun _ _ => answerRestore_census)
  | restart => exact untouched (handOver_census h fun _ _ => answerRestart_census)
  | dump => exact untouched (handOver_census h fun f _ => answerDump_census f)
  | replyEnqueue => exact untouched (replyEnqueue_census h)
  | streamFrameBuild => exact untouched (streamFrameBuild_census h)

end

/-- Settles O11, by the command that runs: it leaves own address and table, changes the table lawfully, or empties it. -/
theorem neighbourLawKept : Obligations.NeighbourLawKept := by
  intro s t law h
  unfold step at h
  split at h
  · obtain rfl := Host.Outcome.next.inj h
    unfold State.tick
    split_ifs
    exacts [law, law]
  · rename_i c rest _
    exact exec_neighbourLaw (s := { s with pending := rest }) law h

end Sys2Proof.Machine
end

section
/-! THEOREM. The deadlines of a neighbour entry (R105 to R108). -/

namespace Sys2Proof.Machine

section
variable {s : State} {a : Nat} {e : Entry} (acts : s.acts) (known : entryOf a s.nt = some e)
include acts known

/-! ## STALE_DEADLINE and SILENT_DEADLINE -/

theorem staleDeadline_present (present : e.age = .present) :
    exec (.staleDeadline a) s =
      .next { s.reach e.staleDue with nt := changeEntry a (fun x => { x with age := .stale }) s.nt } := by
  rw [exec, execStaleDeadline, unlessHeld_acts acts, known]
  exact congrArg Host.Outcome.next (if_pos present)

theorem staleDeadline_past (past : e.age ≠ .present) : exec (.staleDeadline a) s = .next s := by
  rw [exec, execStaleDeadline, unlessHeld_acts acts, known]
  exact congrArg Host.Outcome.next (if_neg past)

/-- NBL is of the Info class: its raise brings the record alone (R106, R143). -/
theorem silentDeadline_heard (heard : e.age ≠ .silent) :
    exec (.silentDeadline a) s =
      .next (raiseRecord (.ofNeighbour a) none
        { s.reach e.silentDue with nt := changeEntry a (fun x => { x with age := .silent }) s.nt }) := by
  rw [exec, execSilentDeadline, unlessHeld_acts acts, known, ← raiseFault_mild none _ FaultClass.noConfusion]
  exact congrArg Host.Outcome.next (if_neg heard)

theorem silentDeadline_past (silent : e.age = .silent) : exec (.silentDeadline a) s = .next s := by
  rw [exec, execSilentDeadline, unlessHeld_acts acts, known]
  exact congrArg Host.Outcome.next (if_pos silent)

/-! ## GONE_DEADLINE -/

theorem goneDeadline_stays (silent : e.age = .silent) (due : e.goneFallen = false) (related : s.relates e = true) :
    exec (.goneDeadline a) s =
      .next { s.reach e.goneDue with nt := changeEntry a (fun x => { x with goneFallen := true }) s.nt } := by
  rw [exec, execGoneDeadline, unlessHeld_acts acts, known]
  exact congrArg Host.Outcome.next ((if_pos ⟨silent, due⟩).trans (if_pos related))

theorem goneDeadline_removes (silent : e.age = .silent) (due : e.goneFallen = false) (strange : ¬ s.relates e = true) :
    exec (.goneDeadline a) s = .next (clearRecord (.ofNeighbour e.address)
      { s.reach e.goneDue with nt := removeEntry a s.nt }) := by
  rw [exec, execGoneDeadline, unlessHeld_acts acts, known]
  exact congrArg Host.Outcome.next (((if_pos ⟨silent, due⟩).trans (if_neg strange)).trans (if_pos silent))

theorem goneDeadline_past (past : e.age ≠ .silent ∨ e.goneFallen = true) : exec (.goneDeadline a) s = .next s := by
  rw [exec, execGoneDeadline, unlessHeld_acts acts, known]
  refine congrArg Host.Outcome.next (if_neg ?_)
  rintro ⟨silent, due⟩
  rcases past with heard | fallen
  · exact heard silent
  · rw [due] at fallen
    cases fallen

end

/-- Settles O40, by what each deadline does with the entry of its address. -/
theorem neighbourAgesByItsPeriod : Obligations.NeighbourAgesByItsPeriod := by
  refine ⟨fun a s e acts known => ⟨staleDeadline_present acts known, staleDeadline_past acts known, fun heard => ?_,
    silentDeadline_past acts known⟩, ?_,
    fun a s e acts known => goneDeadline_past acts known⟩
  · exact ⟨_, silentDeadline_heard acts known heard, rfl, rfl, fun room => raise_active _ _ _ _ room, rfl⟩
  · intro a s e acts known silent due relates
    have related : s.relates e = true ↔ relates := relates_iff s e
    obtain ⟨-, address⟩ := entryOf_some known
    refine ⟨fun kin => goneDeadline_stays acts known silent due (related.mpr kin), fun strange => ?_⟩
    refine ⟨_, goneDeadline_removes acts known silent due (mt related.mp strange), rfl, rfl, ?_, rfl⟩
    rw [address]
    exact clear_inactive _ _ _

end Sys2Proof.Machine
end

section
/-! SUPPORT. What a round decides for a slot: the six cases of R120 with fill demand (R123, R131), and the partner
comparison of case 6 (R126, R127). -/

namespace Sys2Proof.Machine

/-! ## Fill demand -/

/-- Fill demand in the words of R123 and R131: an entry that lists the slot's operator in its sector, and is Silent, or
reports Withdrawn, or lists it there with the off flag set. -/
theorem hasDemand_iff (g : Reading) (r : ReadSlot) :
    g.hasDemand r = true ↔
      ∃ e ∈ g.entries, ∃ n ∈ e.slots, n.operator = r.operator ∧ n.sector = r.sector ∧
        (e.age = .silent ∨ e.reported = .withdrawn ∨
          ∃ x ∈ e.slots, x.operator = r.operator ∧ x.sector = r.sector ∧ x.off = true) := by
  have demands (e : ReadEntry) : e.demands r = true ↔
      (∃ n ∈ e.slots, n.operator = r.operator ∧ n.sector = r.sector) ∧
        (e.age = .silent ∨ e.reported = .withdrawn ∨
          ∃ x ∈ e.slots, x.operator = r.operator ∧ x.sector = r.sector ∧ x.off = true) := by
    simp [ReadEntry.demands, relatesTo, and_assoc, or_assoc]
  simp only [Reading.hasDemand, List.any_eq_true, demands, ← and_assoc, ← exists_and_right]

/-! ## The six cases -/

section
variable {g : Reading} {r : ReadSlot}

theorem decideSlot_troubled (troubled : r.trip ≠ .clear) : decideSlot g r = ⟨0, 0⟩ := if_pos troubled

theorem decideSlot_isolated (clear : r.trip = .clear) (iso : g.iso = true) :
    decideSlot g r = ⟨r.bias - 1, r.fill - 1⟩ := by
  simp [decideSlot, clear, iso]

theorem decideSlot_demanded (clear : r.trip = .clear) (heard : g.iso = false) (demand : g.hasDemand r = true) :
    decideSlot g r = ⟨0, min (r.fill + 1) g.params.fillMax⟩ := by
  simp [decideSlot, clear, heard, demand]

theorem decideSlot_unfilled (clear : r.trip = .clear) (heard : g.iso = false) (spare : ¬ g.hasDemand r = true)
    (filled : 0 < r.fill) : decideSlot g r = ⟨0, r.fill - 1⟩ := by
  simp [decideSlot, clear, heard, spare, filled]

theorem decideSlot_stale (clear : r.trip = .clear) (heard : g.iso = false) (spare : ¬ g.hasDemand r = true)
    (empty : r.fill = 0) (stale : r.stale = true) : decideSlot g r = ⟨r.bias - 1, 0⟩ := by
  simp [decideSlot, clear, heard, spare, empty, stale]

theorem decideSlot_compared (clear : r.trip = .clear) (heard : g.iso = false) (spare : ¬ g.hasDemand r = true)
    (empty : r.fill = 0) (fresh : r.stale = false) : decideSlot g r = ⟨compareBias g r, 0⟩ := by
  simp [decideSlot, clear, heard, spare, empty, fresh]

/-- The partner comparison moves a bias up by one step at most (R127). -/
theorem compareBias_le_succ (g : Reading) (r : ReadSlot) : compareBias g r ≤ r.bias + 1 := by
  unfold compareBias
  dsimp only
  split_ifs <;> omega

/-- No case raises the bias of a stale slot, and none raises bias or fill by more than one step (R120 to R127). -/
theorem decideSlot_steps (g : Reading) (r : ReadSlot) :
    (r.stale = true → (decideSlot g r).bias ≤ r.bias) ∧ (decideSlot g r).bias ≤ r.bias + 1 ∧
      (decideSlot g r).fill ≤ r.fill + 1 := by
  have compared := compareBias_le_succ g r
  unfold decideSlot
  split_ifs with troubled iso demand filled stale
  case neg => exact ⟨fun h => absurd h stale, compared, Nat.zero_le _⟩
  all_goals
    dsimp only
    omega

end

/-- Settles O36, case by case in the order of R120. -/
theorem roundDecidesByCase : Obligations.RoundDecidesByCase := by
  intro g r demand d
  have demanded : g.hasDemand r = true ↔ demand := hasDemand_iff g r
  rw [← demanded]
  exact ⟨decideSlot_troubled, decideSlot_isolated, decideSlot_demanded, decideSlot_unfilled, decideSlot_stale,
    decideSlot_compared, decideSlot_steps g r⟩

/-! ## Candidates and partners -/

/-- In a list of distinct operators the matching entry is the only one (R99, R126). -/
theorem filter_operator {slots : List NbSlot} (distinct : (slots.map NbSlot.operator).Nodup) (operator : Nat) :
    slots.filter (fun n => n.operator == operator) = (matching operator slots).toList := by
  induction slots with
  | nil => rfl
  | cons n rest ih =>
    obtain ⟨alone, others⟩ := List.nodup_cons.mp (List.map_cons ▸ distinct)
    by_cases carries : n.operator = operator
    · have later : rest.filter (fun n => n.operator == operator) = [] := by
        refine List.filter_eq_nil_iff.mpr fun x hx same => alone ?_
        rw [carries, ← beq_iff_eq.mp same]
        exact List.mem_map_of_mem hx
      simp [matching, carries, later]
    · simpa [matching, carries] using ih others

/-- An entry's candidate, as the part of its slot list in another sector with the slot's operator (R126). -/
theorem candidate_toList {e : ReadEntry} (distinct : (e.slots.map NbSlot.operator).Nodup) (r : ReadSlot) :
    (e.candidate r).toList =
      if e.age == .present && e.reported == .serving then
        e.slots.filter fun n => n.operator == r.operator && n.sector != r.sector
      else [] := by
  have others : e.slots.filter (fun n => n.operator == r.operator && n.sector != r.sector) =
      (matching r.operator e.slots).toList.filter fun n => n.sector != r.sector := by
    rw [← filter_operator distinct, List.filter_filter]
    simp only [Bool.and_comm]
  rw [others, ReadEntry.candidate]
  by_cases serves : e.age = .present ∧ e.reported = .serving
  · cases found : matching r.operator e.slots with
    | none => simp [serves]
    | some n => by_cases same : n.sector = r.sector <;> simp [serves, same]
  · rw [if_neg serves, if_neg (by simpa using serves)]
    rfl

theorem filter_flatMap_eq {α β : Type} (p : α → Bool) (f : α → List β) (l : List α) :
    (l.filter p).flatMap f = l.flatMap fun x => if p x then f x else [] := by
  induction l with
  | nil => rfl
  | cons x rest ih => by_cases taken : p x = true <;> simp [taken, ih]

/-- The candidates of a reading, entry by entry (R126). -/
theorem candidates_eq {g : Reading} (distinct : ∀ e ∈ g.entries, (e.slots.map NbSlot.operator).Nodup)
    (r : ReadSlot) :
    g.candidates r =
      (g.entries.filter fun e => e.age == .present && e.reported == .serving).flatMap fun e =>
        e.slots.filter fun n => n.operator == r.operator && n.sector != r.sector := by
  rw [Reading.candidates, List.filterMap_eq_flatMap_toList, filter_flatMap_eq]
  exact List.flatMap_congr fun e listed => candidate_toList (distinct e listed) r

/-! ## The comparison -/

section
variable {g : Reading} {r : ReadSlot}

/-- How far a slot's load lies above the partners' mean (R127). -/
def Reading.excess (g : Reading) (r : ReadSlot) : Int := (r.load : Int) - (meanLoad (g.partners r) : Int)

theorem candidates_of_partners (some_partner : g.partners r ≠ []) : g.candidates r ≠ [] :=
  fun none => some_partner (by rw [Reading.partners, none, List.filter_nil])

theorem compareBias_alone (none : g.candidates r = []) : compareBias g r = r.bias - 1 := by
  simp [compareBias, none]

theorem compareBias_unpartnered (some_candidate : g.candidates r ≠ []) (none : g.partners r = []) :
    compareBias g r = r.bias := by
  simp [compareBias, some_candidate, none]

theorem compareBias_partnered (some_partner : g.partners r ≠ []) :
    compareBias g r =
      if g.params.lAct ≤ r.load ∧ (g.params.hUp : Int) < g.excess r then min (r.bias + 1) g.params.biasMax
      else if g.excess r < -(g.params.hDown : Int) ∨ r.load < g.params.lAct then r.bias - 1
      else r.bias := by
  have some_candidate : ¬ (g.candidates r).isEmpty = true := by simpa using candidates_of_partners some_partner
  have remains : ¬ (g.partners r).isEmpty = true := by simpa using some_partner
  rw [compareBias, if_neg some_candidate, if_neg remains]
  rfl

theorem compareBias_up (some_partner : g.partners r ≠ []) (active : g.params.lAct ≤ r.load)
    (above : (g.params.hUp : Int) < g.excess r) : compareBias g r = min (r.bias + 1) g.params.biasMax := by
  rw [compareBias_partnered some_partner, if_pos ⟨active, above⟩]

theorem compareBias_down (some_partner : g.partners r ≠ [])
    (notUp : ¬ (g.params.lAct ≤ r.load ∧ (g.params.hUp : Int) < g.excess r))
    (below : g.excess r < -(g.params.hDown : Int) ∨ r.load < g.params.lAct) : compareBias g r = r.bias - 1 := by
  rw [compareBias_partnered some_partner, if_neg notUp, if_pos below]

theorem compareBias_hold (some_partner : g.partners r ≠ []) (active : g.params.lAct ≤ r.load)
    (notBelow : -(g.params.hDown : Int) ≤ g.excess r) (notAbove : g.excess r ≤ (g.params.hUp : Int)) :
    compareBias g r = r.bias := by
  rw [compareBias_partnered some_partner, if_neg (by omega), if_neg (by omega)]

end

/-- Settles O37: candidates and partners are those of R126, and the bias follows the branches of R127. -/
theorem partnerComparisonSetsBias : Obligations.PartnerComparisonSetsBias := by
  intro g r distinct
  rw [← candidates_eq distinct]
  exact ⟨compareBias_alone, compareBias_unpartnered, compareBias_up, compareBias_down, compareBias_hold⟩

end Sys2Proof.Machine
end

section
/-! SUPPORT. The begin of a round, its commit, and the entry to Serving (R115, R116, R118, R162). -/

namespace Sys2Proof.Machine

/-! ## ROUND_TIMER_EXPIRY -/

theorem exec_roundTimerExpiry {s : State} {due : Nat} {g : Setting} (acts : s.acts)
    (running : s.su.roundTimer = .running due) (held : s.nc.setting = some g) :
    exec .roundTimerExpiry s = .next (roundBegins g (s.reach due)) := by
  rw [exec, execRoundTimerExpiry, unlessHeld_acts acts, running, held]
  rfl

/-- Settles O35: the round that begins is the one of the reading taken at the clock's new moment. -/
theorem roundTimerExpiryBeginsRound : Obligations.RoundTimerExpiryBeginsRound := by
  intro s due g acts running held
  refine ⟨_, roundOf ((s.reach due).takeReading g), exec_roundTimerExpiry acts running held,
    rfl, rfl, rfl, rfl, rfl, rfl, fun k => ?_⟩
  have reads : (roundOf ((s.reach due).takeReading g)).reading.slots.get k = (s.ca.slots.get k).read :=
    takeReading_slot _ _ _
  refine ⟨reads, (roundOf_decided _ k).trans ?_⟩
  rw [takeReading_slot, reach_ca, SlotRecord.read]
  split_ifs <;> rfl

/-! ## ROUND_COMMIT -/

/-- Requests and grants speak of the Carriage Table, the node state with its restart, and mute alone (R6, R9, R15). -/
theorem allotted_of_same {s t : State} (ca : t.ca = s.ca) (nc : t.nc = s.nc) (mi : t.mi = s.mi) (h : s.allotted) :
    t.allotted := by
  have participates (k : Slot) : t.participates k = s.participates k :=
    participates_eq k (by rw [ca]) (by rw [ca]) nc (by rw [mi])
  unfold State.allotted
  simp only [participates, ca]
  exact h

theorem exec_roundCommit {s : State} {r : Round} (acts : s.acts) (flies : s.su.round = some r) :
    exec .roundCommit s = .next (commit r s) := by
  rw [exec, execRoundCommit, unlessHeld_acts acts, flies]

section
variable {x : SlotRecord} {decided : Option Trims}

theorem slotCommit_disabled (off : x.enabled = false) : x.commit decided = x := by
  simp [SlotRecord.commit, off]

theorem slotCommit_troubled (on : x.enabled = true) (troubled : x.trip ≠ .clear) :
    x.commit decided = { x with bias := 0, fill := 0 } := by
  simp [SlotRecord.commit, on, troubled]

theorem slotCommit_clear {d : Trims} (on : x.enabled = true) (clear : x.trip = .clear) (decides : decided = some d) :
    x.commit decided = { x with bias := d.bias, fill := d.fill } := by
  simp [SlotRecord.commit, on, clear, decides]

end

/-- A commit writes the trims of a slot, and its pass the levels (R11, R118). -/
theorem commit_slot_frame (r : Round) (s : State) (k : Slot) :
    (commit r s).ca.slots.get k =
      { s.ca.slots.get k with
        bias := ((commit r s).ca.slots.get k).bias
        fill := ((commit r s).ca.slots.get k).fill
        request := ((commit r s).ca.slots.get k).request
        grant := ((commit r s).ca.slots.get k).grant
        lastSent := ((commit r s).ca.slots.get k).lastSent } := by
  rw [commit_slot, pass_slot, trimsCommitted_slot, slotCommit_eq]

theorem commit_frame (r : Round) (s : State) :
    commit r s =
      { s with
        ca := (commit r s).ca, pm := (commit r s).pm, su := { s.su with round := none }, fr := (commit r s).fr } := by
  rw [commit_eq]
  apply State.ext_blocks <;> simp [roundOver, trimsCommitted]

theorem roundOver_allotted {s : State} (h : s.allotted) : (roundOver s).allotted :=
  allotted_of_same (roundOver_ca s) rfl rfl h

theorem commit_allotted (r : Round) (s : State) : (commit r s).allotted := by
  rw [commit_eq]
  exact roundOver_allotted (pass_allotted _)

theorem commit_budget (r : Round) (s : State) : (commit r s).ca.budget = s.ca.budget := by
  rw [commit_eq, roundOver_ca, pass_budget]
  rfl

/-- Settles O38, by what the commit makes of a slot that is disabled, off Clear or Clear, and by the pass after it. -/
theorem roundCommitWritesTrims : Obligations.RoundCommitWritesTrims := by
  intro s r acts flies
  have ended : (commit r s).su = { s.su with round := none } := by rw [commit_frame]
  refine ⟨commit r s, exec_roundCommit acts flies, ended, fun k => ?_, commit_allotted r s, commit_budget r s, ?_⟩
  · obtain ⟨bias, fill⟩ := commit_trims r s k
    refine ⟨fun off => ?_, fun on troubled => ?_, fun d on clear decides => ?_, commit_slot_frame r s k⟩
    · rw [bias, fill, slotCommit_disabled off]
      exact ⟨rfl, rfl⟩
    · rw [bias, fill, slotCommit_troubled on troubled]
      exact ⟨rfl, rfl⟩
    · rw [bias, fill, slotCommit_clear on clear decides]
      exact ⟨rfl, rfl⟩
  · rw [ended]
    exact commit_frame r s

/-! ## JOIN_TIMER_EXPIRY -/

/-- The alarm of a change of node state puts the urgent marker in the queue while no beacon is under way (R91, R93). -/
theorem stateChanged_urgent {s : State} (running : s.nc.restart ≠ .inProgress) (free : s.lc.beaconUnderWay = false) :
    .marker true ∈ (stateChanged s).lc.txQueue := by
  have idle : (evaluateOff s).lc.beaconUnderWay = false := by
    rw [Line.beaconUnderWay, evaluateOff_phase]
    exact free
  rw [stateChanged, alarm_lc (by rwa [pass_nc, evaluateOff_nc]), pass_lc, Line.alarmed, idle]
  exact urgentMarker_mem _

/-- The node state is Serving and the join timer stopped, before the allocation and the alarm follow (R162). -/
def State.toServing (s : State) : State := { s with nc := { s.nc with state := some .serving, joinTimer := .stopped } }

/-- The round timer started from its full length (R115, R162). -/
def startRoundTimer (g : Setting) (s : State) : State :=
  { s with su := { s.su with roundTimer := .running (s.now + g.tRound * 1000) } }

section
variable {s : State} {g : Setting}

/-- Entry to Serving: the change of node state, then the round timer (R162). -/
theorem enterServing_eq (held : s.nc.setting = some g) :
    enterServing s = startRoundTimer g (stateChanged s.toServing) := by
  have setting : (stateChanged s.toServing).nc.setting = some g := by
    rw [stateChanged_nc]
    exact held
  unfold enterServing
  dsimp only
  rw [show stateChanged { s with nc := { s.nc with state := some .serving, joinTimer := .stopped } } =
    stateChanged s.toServing from rfl, setting]
  rfl

theorem exec_joinTimerExpiry {due : Nat} (acts : s.acts) (running : s.nc.joinTimer = .running due)
    (held : s.nc.setting = some g) :
    exec .joinTimerExpiry s = .next (startRoundTimer g (stateChanged (s.reach due).toServing)) := by
  rw [exec, execJoinTimerExpiry, unlessHeld_acts acts, running]
  dsimp only
  rw [enterServing_eq (s := s.reach due) held]

end

theorem stateChanged_allotted (s : State) : (stateChanged s).allotted :=
  allotted_of_same (alarm_ca _) (alarm_nc _) (alarm_mi _) (pass_allotted _)

theorem stateChanged_offFlagsStand (s : State) : (stateChanged s).offFlagsStand :=
  (stateChanged_alike s).offFlagsStand (reallot_stands s)

theorem stateChanged_budget (s : State) : (stateChanged s).ca.budget = s.ca.budget := by
  rw [stateChanged, alarm_ca, reallot_budget]

/-- A change of node state leaves the slots' trims and trips. -/
theorem stateChanged_slot (s : State) (k : Slot) :
    ((stateChanged s).ca.slots.get k).bias = (s.ca.slots.get k).bias ∧
    ((stateChanged s).ca.slots.get k).fill = (s.ca.slots.get k).fill ∧
    ((stateChanged s).ca.slots.get k).trip = (s.ca.slots.get k).trip := by
  obtain ⟨trip, bias, fill, -⟩ := reallot_slot s k
  rw [stateChanged, alarm_ca]
  exact ⟨bias, fill, trip⟩

theorem stateChanged_frame (s : State) :
    stateChanged s =
      { s with
        ca := (stateChanged s).ca
        pm := (stateChanged s).pm
        lc := (stateChanged s).lc
        fr := (stateChanged s).fr } := by
  apply State.ext_blocks <;> simp

/-- Settles O39, by what a change of node state leaves and the round timer that starts after it. -/
theorem joinTimerExpiryEntersServing : Obligations.JoinTimerExpiryEntersServing := by
  intro s due g acts running held
  have result := exec_joinTimerExpiry acts running held
  have allotted := stateChanged_allotted (s.reach due).toServing
  have stands := stateChanged_offFlagsStand (s.reach due).toServing
  have budget := stateChanged_budget (s.reach due).toServing
  have slot := stateChanged_slot (s.reach due).toServing
  have urgent := @stateChanged_urgent (s.reach due).toServing
  have frame := stateChanged_frame (s.reach due).toServing
  generalize stateChanged (s.reach due).toServing = u at *
  have started : startRoundTimer g u =
      { s with
        now := s.moment due
        ca := u.ca, pm := u.pm, lc := u.lc, fr := u.fr
        su := { s.su with roundTimer := .running (s.moment due + g.tRound * 1000) }
        nc := { s.nc with state := some .serving, joinTimer := .stopped } } := by
    rw [frame]
    rfl
  refine ⟨_, result, ?_, ?_, ?_, allotted_of_same rfl rfl rfl allotted,
    (setRoundTimer_alike u _).offFlagsStand stands, budget, slot, urgent, ?_⟩
  all_goals rw [started]

end Sys2Proof.Machine
end

section
/-! SUPPORT. A raise, a clear and an acknowledgement record by record (R143, R144, R146, R151, R172). -/

namespace Sys2Proof.Machine

section
variable {fr : Recorder} {now : Nat} {key : Key} {x : Option (Int × Int)} {before after : List Record} {r : Record}

/-! ## A raise and a clear, case by case -/

theorem raise_of_active (h : fr.isActive key = true) : fr.raise now key x = fr := if_pos h

/-- A raise where every record with the key is Cleared and there is one: it is reactivated (R143). -/
theorem raise_of_cleared (inactive : fr.isActive key = false) (known : ∃ r ∈ fr.log, r.key = key) :
    fr.raise now key x =
      ({ fr with log := fr.log.map fun r => if r.key = key then r.reactivate now x else r } : Recorder).evaluate := by
  have found : fr.log.any (fun r => r.key == key) = true := by simpa using known
  rw [Recorder.raise, inactive, if_neg Bool.false_ne_true, if_pos found]

theorem raise_of_absent (absent : ∀ r ∈ fr.log, r.key ≠ key) : fr.raise now key x = (fr.create now key x).evaluate := by
  have inactive : fr.isActive key = false := List.any_eq_false.mpr fun r mem => by simp [absent r mem]
  have unknown : ¬ fr.log.any (fun r => r.key == key) = true := by simpa using absent
  rw [Recorder.raise, inactive, if_neg Bool.false_ne_true, if_neg unknown]

theorem create_of_room (room : fr.log.length < 32) :
    fr.create now key x =
      { fr with log := fr.log ++ [newRecord fr.nextSeq now key x], nextSeq := (fr.nextSeq + 1) % 65536 } := if_pos room

/-- A record created in a full log takes the place of the oldest Cleared one (R144). -/
theorem create_of_full (full : fr.log.length = 32) (log : fr.log = before ++ r :: after)
    (standing : ∀ y ∈ before, y.active = true) (inactive : r.active = false) :
    fr.create now key x =
      { fr with
        log := before ++ after ++ [newRecord fr.nextSeq now key x]
        nextSeq := (fr.nextSeq + 1) % 65536
        saturated := true } := by
  have dropped : dropOldestCleared fr.log = before ++ after := by
    rw [dropOldestCleared, log, List.eraseP_append_right _ (by simpa using standing),
      List.eraseP_cons_of_pos (by simp [inactive])]
  have noRoom : ¬ fr.log.length < Config.logPlaces := full.not_lt
  have cleared : ¬ fr.log.all Record.active = true := by simp [log, inactive]
  unfold Recorder.create
  dsimp only
  rw [if_neg noRoom, if_neg cleared, dropped]

theorem clear_of_active (h : fr.isActive key = true) :
    fr.clear now key =
      ({ fr with
        log := fr.log.filterMap fun r => if r.key = key ∧ r.active then r.ended now else some r } :
          Recorder).evaluate := if_pos h

/-! ## The one record with the key, at its place -/

/-- Whether a log with one record of the key holds it Active is what that record says. -/
theorem isActive_at (log : fr.log = before ++ r :: after) (named : r.key = key)
    (others : ∀ y ∈ before ++ after, y.key ≠ key) : fr.isActive key = r.active := by
  have none (l : List Record) (apart : ∀ y ∈ l, y.key ≠ key) : (l.any fun y => y.key == key && y.active) = false :=
    List.any_eq_false.mpr fun y mem => by simp [apart y mem]
  rw [Recorder.isActive, log, List.any_append, List.any_cons, none before fun y mem => others y (List.mem_append_left _ mem),
    none after fun y mem => others y (List.mem_append_right _ mem)]
  simp [named]

/-- What acts on the records of one key acts on the one record that has it. -/
theorem filterMap_at {f : Record → Option Record} (others : ∀ y ∈ before ++ after, f y = some y) :
    (before ++ r :: after).filterMap f = before ++ (f r).toList ++ after := by
  have kept (l : List Record) (same : ∀ y ∈ l, f y = some y) : l.filterMap f = l :=
    (List.filterMap_congr same).trans List.filterMap_some
  rw [List.filterMap_append, List.filterMap_cons, kept before fun y mem => others y (List.mem_append_left _ mem),
    kept after fun y mem => others y (List.mem_append_right _ mem)]
  cases f r <;> simp

/-- A raise reactivates a Cleared record in its place (R143). -/
theorem raise_at (log : fr.log = before ++ r :: after) (named : r.key = key) (inactive : r.active = false)
    (others : ∀ y ∈ before ++ after, y.key ≠ key) :
    fr.raise now key x =
      ({ fr with log := before ++ r.reactivate now x :: after } : Recorder).evaluate := by
  have known : ∃ y ∈ fr.log, y.key = key := ⟨r, by simp [log], named⟩
  rw [raise_of_cleared ((isActive_at log named others).trans inactive) known, log, ← List.filterMap_eq_map',
    filterMap_at fun y mem => by rw [if_neg (others y mem)], if_pos named]
  simp

/-- A clear makes an Active record Cleared in its place, or takes it out of the log (R146). -/
theorem clear_at (log : fr.log = before ++ r :: after) (named : r.key = key) (active : r.active = true)
    (others : ∀ y ∈ before ++ after, y.key ≠ key) :
    fr.clear now key =
      ({ fr with log := before ++ (r.ended now).toList ++ after } : Recorder).evaluate := by
  rw [clear_of_active ((isActive_at log named others).trans active), log,
    filterMap_at fun y mem => if_neg fun same => others y mem same.1, if_pos ⟨named, active⟩]

theorem ended_toList (now : Nat) (r : Record) :
    (r.ended now).toList =
      if r.acked then [] else [{ r with active := false, cleared := some (now / 1000) }] := by
  unfold Record.ended
  split_ifs <;> rfl

end

/-- Settles O20, by the cases of a raise and of a clear. -/
theorem raiseAndClearActOnTheLog : Obligations.RaiseAndClearActOnTheLog := by
  refine ⟨fun fr now key x => ⟨fun standing => ?_, fun before r after log named inactive others => ?_,
    fun absent room => ?_, fun before r after absent full log standing inactive => ?_⟩,
    fun fr now key => ⟨fun none => ?_, fun before r after log named active others => ?_⟩⟩
  · exact raise_of_active ((isActive_iff fr key).mpr standing)
  · rw [raise_at log named inactive others]
    exact ⟨rfl, rfl, rfl⟩
  · rw [raise_of_absent absent, create_of_room room]
    exact ⟨rfl, rfl, rfl⟩
  · rw [raise_of_absent absent, create_of_full full log standing inactive]
    exact ⟨rfl, rfl, rfl⟩
  · refine clear_of_inactive now (Bool.eq_false_iff.mpr fun standing => ?_)
    obtain ⟨y, mem, named, active⟩ := (isActive_iff fr key).mp standing
    rw [none y mem named] at active
    cases active
  · rw [clear_at log named active others, ended_toList]
    exact ⟨rfl, rfl, rfl, rfl⟩

/-! ## An acknowledgement -/

section
variable {fr : Recorder} {upTo : Nat}

/-- The log after ACK_FAULTS (R151): the Cleared records newly acknowledged leave it, the Active ones are marked. -/
theorem acknowledge_log (fr : Recorder) (upTo : Nat) :
    (fr.acknowledge upTo).log =
      (fr.log.filter fun r => !(r.ackedBy upTo && !r.active)).map fun r =>
        if r.ackedBy upTo then { r with acked := true } else r := by
  unfold Recorder.acknowledge
  dsimp only
  rw [← List.filterMap_eq_map', List.filterMap_filter]
  refine List.filterMap_congr fun r _ => ?_
  cases newly : r.ackedBy upTo <;> cases standing : r.active <;> simp

/-- An acknowledgement leaves what is asked of Active records alone, be they acknowledged or not (R151). -/
theorem acknowledge_any {p : Record → Bool} (active : ∀ r, p r = true → r.active = true)
    (blind : ∀ r, p { r with acked := true } = p r) : (fr.acknowledge upTo).log.any p = fr.log.any p := by
  have marked (r : Record) : p (if r.ackedBy upTo then { r with acked := true } else r) = p r := by
    split_ifs
    exacts [blind r, rfl]
  have standing (r : Record) : (!(r.ackedBy upTo && !r.active) && p r) = p r := by
    cases asked : p r with
    | false => rw [Bool.and_false]
    | true => rw [active r asked, Bool.not_true, Bool.and_false, Bool.not_false, Bool.true_and]
  rw [acknowledge_log, List.any_map, List.any_filter]
  simp only [Function.comp_apply, marked, standing]

theorem acknowledge_summary : (fr.acknowledge upTo).summary = fr.summary := by
  have flags (k : Kind) : (fr.acknowledge upTo).log.any (fun r => r.active && r.key.kind == k) =
      fr.log.any fun r => r.active && r.key.kind == k :=
    acknowledge_any (fun r shown => (Bool.and_eq_true_iff.mp shown).1) fun _ => rfl
  simp only [Recorder.summary, flags]
  rfl

end

/-! ## ACK_FAULTS -/

theorem wordAt_arguments (f : Frame) (i : Nat) : wordAt f.arguments i = wordAt f.payload (i + 2) := by
  rw [wordAt, byteAt_arguments, byteAt_arguments, wordAt, Nat.add_right_comm]

theorem ackFaults_exec {s : State} {f : Frame} {rest : List Frame} (head : s.commandAtHead f rest 2) :
    exec .ackFaults s = .next (offerReply f (answerAckFaults f.arguments (headTaken rest s))) := by
  rw [exec, execAckFaults, unlessHeld_acts head.1, handOverCode_at _ head]

/-- What ACK_FAULTS answers where it has its arguments (R172). -/
theorem answerAckFaults_done {args : List Byte} {s : State} (long : 2 ≤ args.length) :
    answerAckFaults args s =
      accept [byteOf (s.fr.log.filter (Record.ackedBy (wordAt args 0))).length]
        { s with fr := s.fr.acknowledge (wordAt args 0) } := if_neg long.not_gt

/-- Settles O54, by what an acknowledgement makes of the log and of the summary. -/
theorem ackFaultsCoversRecords : Obligations.AckFaultsCoversRecords := by
  intro s f rest head upTo covered
  have idle := commandAtHead_idle head
  have length : f.arguments.length = f.payload.length - 2 := List.length_drop
  rw [ackFaults_exec head]
  refine ⟨fun long => ?_, fun short => ?_⟩
  · have argument : wordAt f.arguments 0 = upTo := wordAt_arguments f 0
    have log := acknowledge_log s.fr upTo
    have summary := acknowledge_summary (fr := s.fr) (upTo := upTo)
    rw [answerAckFaults_done (by omega), argument]
    refine ⟨_, rfl, ?_⟩
    rw [offerReply_waits rfl idle]
    exact ⟨congrArg (fun log => ({ s.fr with log := log, saturated := false } : Recorder)) log, summary, rfl, rfl⟩
  · rw [answerAckFaults, if_pos (by omega), offerReply_headTaken rfl rfl idle]
    rfl

end Sys2Proof.Machine
end

section
/-! SUPPORT. What the parts of the meanings do to the Fault Recorder: they operate on it by raises, clears, acknowledgements
and new masks alone, each of which leaves the fault line as the log and the mask give it (R148). -/

namespace Sys2Proof.Machine

/-! ## The operations of the Fault Recorder -/

/-- One operation of the Fault Recorder: a raise (R143), a clear (R146), the clear of every Active record (R153), an
acknowledgement (R151), a mask loaded or dropped (R147, R159), the reset (R156). -/
inductive Recorder.Operates (fr : Recorder) : Recorder → Prop where
  | raise (now : Nat) (key : Key) (x : Option (Int × Int)) : fr.Operates (fr.raise now key x)
  | clear (now : Nat) (key : Key) : fr.Operates (fr.clear now key)
  | clearAll (now : Nat) : fr.Operates (fr.clearAll now)
  | acknowledge (upTo : Nat) : fr.Operates (fr.acknowledge upTo)
  | takeMask (mask : BitVec 16) : fr.Operates ({ fr with mask := mask } : Recorder).evaluate
  | reset : fr.Operates State.reset.fr

/-- The Fault Recorder gets from one state to another by its operations alone. -/
def Recorder.LeadsTo (fr fr' : Recorder) : Prop := Relation.ReflTransGen Recorder.Operates fr fr'

theorem Recorder.LeadsTo.refl (fr : Recorder) : fr.LeadsTo fr := Relation.ReflTransGen.refl

theorem Recorder.LeadsTo.trans {fr fr' fr'' : Recorder} (h : fr.LeadsTo fr') (h' : fr'.LeadsTo fr'') : fr.LeadsTo fr'' :=
  Relation.ReflTransGen.trans h h'

theorem Recorder.LeadsTo.operate {fr fr' fr'' : Recorder} (h : fr.LeadsTo fr') (operates : fr'.Operates fr'') :
    fr.LeadsTo fr'' := Relation.ReflTransGen.tail h operates

/-! ## The fault line -/

theorem faultLineLaw_iff (s : State) : FaultLineLaw s ↔ s.fr.lined := by
  refine ⟨fun law => Bool.eq_iff_iff.mpr (law.trans ?_), faultLineLaw_of_lined⟩
  rw [List.any_eq_true]
  exact exists_congr fun r => and_congr_right fun _ => (asserts_iff s.fr.mask r).symm

/-- Only Active records assert the fault line, acknowledged or not, so an acknowledgement leaves it right (R151). -/
theorem acknowledge_lined {fr : Recorder} (upTo : Nat) (h : fr.lined) : (fr.acknowledge upTo).lined :=
  h.trans (acknowledge_any (fun r asserts => ((asserts_iff fr.mask r).mp asserts).1) fun _ => rfl).symm

theorem Recorder.Operates.lined {fr fr' : Recorder} (operates : fr.Operates fr') (h : fr.lined) : fr'.lined := by
  cases operates with
  | raise now key x => exact raise_lined h now key x
  | clear now key => exact clear_lined h now key
  | clearAll now => exact evaluate_lined _
  | acknowledge upTo => exact acknowledge_lined upTo h
  | takeMask mask => exact evaluate_lined _
  | reset => rfl

theorem Recorder.LeadsTo.lined {fr fr' : Recorder} (h : fr.LeadsTo fr') (lined : fr.lined) : fr'.lined := by
  induction h with
  | refl => exact lined
  | tail _ operates ih => exact operates.lined ih

/-! ## What leaves the Fault Recorder as it is -/

theorem enterJoining_fr (s : State) : (enterJoining s).fr = s.joined.fr := by
  unfold enterJoining State.joined
  dsimp only
  generalize stateChanged _ = u
  split <;> rfl

theorem enterServing_fr (s : State) : (enterServing s).fr = (stateChanged s.toServing).fr := by
  unfold enterServing State.toServing
  dsimp only

theorem closeFrame_fr (s : State) : (closeFrame s).fr = s.fr := by
  unfold closeFrame
  split <;> rfl

theorem offerReply_fr (f : Frame) (a : Answer) : (offerReply f a).fr = a.state.fr := by
  unfold offerReply
  dsimp only
  split_ifs
  exacts [restartReplyGone_fr _, rfl, rfl]

/-! ## Work done item by item -/

theorem foldl_leadsTo {fr : Recorder} {α : Type} {f : State → α → State} (l : List α)
    (each : ∀ u a, fr.LeadsTo u.fr → fr.LeadsTo (f u a).fr) (s : State) (h : fr.LeadsTo s.fr) :
    fr.LeadsTo (l.foldl f s).fr := by
  induction l generalizing s with
  | nil => exact h
  | cons a l ih => exact ih (f s a) (each s a h)

section
variable {fr : Recorder} {s : State} (h : fr.LeadsTo s.fr)

include h

/-! ## Allocation and node states -/

theorem raiseRecord_leadsTo (key : Key) (x : Option (Int × Int)) : fr.LeadsTo (raiseRecord key x s).fr :=
  h.operate (.raise s.now key x)

theorem clearRecord_leadsTo (key : Key) : fr.LeadsTo (clearRecord key s).fr := h.operate (.clear s.now key)

theorem pass_leadsTo : fr.LeadsTo (pass s).fr := by
  rw [pass_fr, reportShort]
  split_ifs
  exacts [raiseRecord_leadsTo (s := allot s) h _ _, clearRecord_leadsTo (s := allot s) h _]

theorem reallot_leadsTo : fr.LeadsTo (pass (evaluateOff s)).fr := pass_leadsTo (by rwa [evaluateOff_fr])

theorem stateChanged_leadsTo : fr.LeadsTo (stateChanged s).fr := by
  rw [stateChanged, alarm_fr]
  exact reallot_leadsTo h

theorem withdraw_leadsTo : fr.LeadsTo (withdraw s).fr := by
  unfold withdraw
  split_ifs
  · rw [enterWithdrawn_eq, breakRequest_fr]
    exact stateChanged_leadsTo (s := s.leavingAir) h
  · exact h

theorem raiseFault_leadsTo (key : Key) (x : Option (Int × Int)) : fr.LeadsTo (raiseFault key x s).fr := by
  refine (raiseRecord_leadsTo h key x).trans ?_
  refine raiseFault_brings (R := fun u v => u.fr.LeadsTo v.fr) (fun u => .refl u.fr) .trans (fun u => ?_)
    (fun u => withdraw_leadsTo (.refl u.fr)) (fun u => ?_) key x s
  · rw [alarm_fr]
    exact .refl u.fr
  · rw [breakRequest_fr]
    exact .refl u.fr

theorem enterJoining_leadsTo : fr.LeadsTo (enterJoining s).fr := by
  rw [enterJoining_fr, State.joined]
  exact stateChanged_leadsTo (s := zeroTrims _) h

theorem enterServing_leadsTo : fr.LeadsTo (enterServing s).fr := by
  rw [enterServing_fr]
  exact stateChanged_leadsTo (s := s.toServing) h

theorem enterUnconfigured_leadsTo : fr.LeadsTo (enterUnconfigured s).fr := by
  rw [enterUnconfigured_eq, startBeaconTimer_fr, State.unconfigured]
  exact stateChanged_leadsTo (s := zeroTrims s.unconfiguring) h

/-! ## Measurement frames -/

theorem tripActions_leadsTo (k : Slot) : fr.LeadsTo (tripActions k s).fr := by
  rw [tripActions_eq]
  exact pass_leadsTo (by rwa [settleSilenced_fr])

theorem tripRaised_leadsTo (g : Setting) (a : State) (forward : Nat) (k : Slot) (x : TripState) (kind : Kind) :
    fr.LeadsTo (tripRaised g a forward k x kind s).fr :=
  raiseFault_leadsTo (tripActions_leadsTo (s := slotTripped k x s) h k) _ _

theorem tripSlot_leadsTo (g : Setting) (a : State) (forward : Nat) (k : Slot) :
    fr.LeadsTo (tripSlot g a forward k s).fr := by
  rcases tripSlot_cases g a forward k s with tripped | latched
  · rw [tripped, startHoldOff_fr]
    exact tripRaised_leadsTo h g a forward k .tripped .ovd
  · rw [latched]
    exact tripRaised_leadsTo h g a forward k .latched .ovl

theorem testSlot_leadsTo (g : Setting) (a : State) (m : MeasFrame) (k : Slot) : fr.LeadsTo (testSlot g a m s k).fr := by
  unfold testSlot
  dsimp only
  split_ifs
  exacts [tripSlot_leadsTo h _ _ _ _, h, h, h]

theorem testAntenna_leadsTo (g : Setting) (a : State) (m : MeasFrame) : fr.LeadsTo (testAntenna g a m s).fr := by
  unfold testAntenna latchAntenna
  split_ifs
  · exact raiseFault_leadsTo (s := { s with pm := { s.pm with antLatch := true, antFilter := 0 } }) h _ _
  all_goals exact h

theorem protect_leadsTo (m : MeasFrame) : fr.LeadsTo (protect m s).fr := by
  unfold protect
  dsimp only
  split
  · exact h
  · rename_i g _
    exact testAntenna_leadsTo (foldl_leadsTo Slot.all (fun u k before => testSlot_leadsTo before g s m k) s h) g s m

theorem thermal_leadsTo (g : Setting) (y : Int) : fr.LeadsTo (thermal g y s).fr := by
  have derate (before after : Nat) {u : State} (h : fr.LeadsTo u.fr) : fr.LeadsTo (reportDerate g before after y u).fr := by
    unfold reportDerate
    split_ifs
    exacts [raiseFault_leadsTo h _ _, clearRecord_leadsTo h _, h]
  have mute (before after : Bool) {u : State} (h : fr.LeadsTo u.fr) : fr.LeadsTo (reportMute g before after y u).fr := by
    unfold reportMute
    split_ifs
    exacts [raiseFault_leadsTo h _ _, clearRecord_leadsTo h _, h]
  by_cases same : nextStep g s.mi.derate y = s.mi.derate ∧ nextMute g s.mi.mute y = s.mi.mute
  · rwa [thermal_same same.1 same.2]
  · rw [thermal_changed same]
    exact reallot_leadsTo (mute _ _ (derate _ _ (u := s.derated _ _) h))

theorem loadWork_leadsTo (m : MeasFrame) : fr.LeadsTo (loadWork m s).fr := by
  unfold loadWork
  split
  · exact h
  · split_ifs
    exacts [clearRecord_leadsTo h (.plain .smp), h]

theorem goodFrame_leadsTo (m : MeasFrame) : fr.LeadsTo (goodFrame m s).fr := by
  have arrived : fr.LeadsTo (arrival m s).fr := loadWork_leadsTo (by rwa [refreshSampleTimer_fr]) m
  have tested := protect_leadsTo arrived m
  show fr.LeadsTo (thermalWork m (protect m (arrival m s))).fr
  unfold thermalWork
  split
  exacts [tested, thermal_leadsTo tested _ _]

/-! ## The line -/

theorem listenOnly_leadsTo (key : Key) (n : Nat) :
    fr.LeadsTo (startCoolDown n (emptyForListenOnly (raiseFault key none (setMode .listenOnly s)))).fr := by
  rw [startCoolDown_fr, emptyForListenOnly_fr]
  exact raiseFault_leadsTo (s := setMode .listenOnly s) h key none

theorem probeFailed_leadsTo : fr.LeadsTo (probeFailed s).fr := by
  rw [probeFailed, emptyForListenOnly_fr]
  exact raiseFault_leadsTo (s := startCoolDown _ (setMode .listenOnly s)) h _ none

theorem duplicateAddress_leadsTo : fr.LeadsTo (duplicateAddress s).fr := by
  unfold duplicateAddress
  split
  · exact listenOnly_leadsTo h _ _
  · refine raiseFault_leadsTo ?_ _ none
    rwa [startCoolDown_fr, emptyForListenOnly_fr]
  · exact raiseFault_leadsTo h _ none

theorem recordBeacon_leadsTo (heard : Bool) : fr.LeadsTo (recordBeacon heard s).fr := by
  unfold recordBeacon
  dsimp only
  split_ifs
  · exact clearRecord_leadsTo (by exact h) _
  · exact raiseFault_leadsTo (by exact h) _ none
  · exact h

theorem settle_leadsTo (a : Attempt) (queued : Bool) : fr.LeadsTo (settle a queued s).fr := by
  have removed {u : State} (h : fr.LeadsTo u.fr) :
      fr.LeadsTo (if queued then removeAttempted a.owner false u else u).fr := by
    split_ifs
    · rwa [removeAttempted_fr]
    · exact h
  have mode {u : State} (h : fr.LeadsTo u.fr) : fr.LeadsTo
      (if a.probe && u.lc.mode == .probing then probeFailed u
      else if u.lc.mode == .normal && decide (Config.errorLimit ≤ u.lc.txErrors) then enterListenOnly u
      else u).fr := by
    split_ifs
    exacts [probeFailed_leadsTo h, listenOnly_leadsTo h _ _, h]
  unfold settle
  dsimp only
  split
  · exact h
  · exact mode (removed (u := countError (setPhase .quiet s)) h)

/-! ## Frames received -/

theorem appendOutcome_leadsTo (o : LineOutcome) : fr.LeadsTo (appendOutcome o s).fr := by
  unfold appendOutcome
  dsimp only
  split_ifs
  · exact raiseFault_leadsTo (by exact h) _ none
  · exact clearRecord_leadsTo (by exact h) _
  · exact h

theorem offer_leadsTo (f : Frame) : fr.LeadsTo (offer f s).fr := by
  unfold offer
  split_ifs
  exacts [h, clearRecord_leadsTo (raiseFault_leadsTo h _ none) _, h]

theorem checkTwin_leadsTo (f : Frame) : fr.LeadsTo (checkTwin f s).fr := by
  unfold checkTwin
  split_ifs
  exacts [duplicateAddress_leadsTo h, h]

theorem takeFrame_leadsTo (f : Frame) (noisy othersHold : Bool) : fr.LeadsTo (takeFrame f noisy othersHold s).fr := by
  unfold takeFrame
  dsimp only
  rw [frameEnds_fr, driveBits_fr]
  exact offer_leadsTo (checkTwin_leadsTo (appendOutcome_leadsTo h _) f) f

theorem takeBadFrame_leadsTo : fr.LeadsTo (takeBadFrame s).fr := by
  rw [takeBadFrame, frameEnds_fr, driveBits_fr]
  exact appendOutcome_leadsTo h _

theorem takeRest_leadsTo (f : Frame) (othersHold : Bool) : fr.LeadsTo (takeRest f othersHold s).fr := by
  unfold takeRest
  dsimp only
  rw [frameEnds_fr, driveBits_fr]
  split_ifs
  exacts [offer_leadsTo (duplicateAddress_leadsTo h) f, h]

theorem receiveFrame_leadsTo (line : List Sample) (othersHold : Bool) :
    fr.LeadsTo (receiveFrame line othersHold s).fr := by
  unfold receiveFrame
  split
  exacts [h, h, takeBadFrame_leadsTo h, takeFrame_leadsTo h _ _ _]

theorem receiveRest_leadsTo (line : List Sample) (othersHold : Bool) :
    fr.LeadsTo (receiveRest line othersHold s).fr := by
  unfold receiveRest
  split
  · exact h
  · exact h
  · rwa [closeFrame_fr]
  · rw [closeFrame_fr]
    exact takeRest_leadsTo h _ _

/-! ## The Neighbour Table -/

theorem clearNbl_leadsTo (e : Entry) : fr.LeadsTo (clearNbl e s).fr := by
  unfold clearNbl
  split_ifs
  exacts [clearRecord_leadsTo h _, h]

theorem applyBeacon_leadsTo (address : Nat) (b : BeaconContent) : fr.LeadsTo (applyBeacon address b s).fr := by
  unfold applyBeacon
  split
  · exact clearNbl_leadsTo (by exact h) _
  · split_ifs
    · exact h
    · split
      exacts [h, clearNbl_leadsTo (by exact h) _]

/-! ## Commands -/

theorem clearSlotTrip_leadsTo (k : Slot) : fr.LeadsTo (clearSlotTrip s k).fr := by
  unfold clearSlotTrip
  split_ifs
  exacts [h, (h.operate (.clear s.now (.ofSlot .ovd k))).operate (.clear s.now (.ofSlot .ovl k))]

theorem clearAntenna_leadsTo : fr.LeadsTo (clearAntenna s).fr := by
  unfold clearAntenna
  split_ifs
  exacts [clearRecord_leadsTo (by exact h) _, h]

theorem clearTarget_leadsTo (target : Nat) : fr.LeadsTo (clearTarget target s).fr := by
  unfold clearTarget
  split
  · exact clearAntenna_leadsTo (foldl_leadsTo Slot.all (fun u k before => clearSlotTrip_leadsTo before k) s h)
  · split
    · exact clearSlotTrip_leadsTo h _
    · split_ifs
      exacts [clearAntenna_leadsTo h, h]

theorem answerAckFaults_leadsTo (args : List Byte) : fr.LeadsTo (answerAckFaults args s).state.fr := by
  unfold answerAckFaults
  split_ifs
  exacts [h, h.operate (.acknowledge _)]

theorem answerClearTrip_leadsTo (args : List Byte) : fr.LeadsTo (answerClearTrip args s).state.fr := by
  unfold answerClearTrip
  split_ifs
  · exact h
  · rw [accept_state]
    exact reallot_leadsTo (clearTarget_leadsTo h _)
  · exact h

theorem answerRestore_leadsTo : fr.LeadsTo (answerRestore s).state.fr := by
  unfold answerRestore
  dsimp only
  split_ifs
  · exact h
  · rw [accept_state]
    exact enterJoining_leadsTo h
  · exact h

theorem answerRestart_leadsTo : fr.LeadsTo (answerRestart s).state.fr := by
  unfold answerRestart
  split_ifs <;> exact h

theorem answerDump_leadsTo (f : Frame) : fr.LeadsTo (answerDump f s).state.fr := by
  unfold answerDump
  dsimp only
  split_ifs <;> exact h

theorem answerOf_leadsTo (f : Frame) : fr.LeadsTo (answerOf f s).state.fr := by
  unfold answerOf
  split_ifs
  exacts [h, answerAckFaults_leadsTo h _, answerClearTrip_leadsTo h _, answerRestore_leadsTo h, answerRestart_leadsTo h,
    answerDump_leadsTo h f, h]

theorem takeCommand_leadsTo {f : Frame} {answer : State → Answer}
    (answers : ∀ u : State, fr.LeadsTo u.fr → fr.LeadsTo (answer u).state.fr) :
    fr.LeadsTo (takeCommand f answer s).fr := by
  unfold takeCommand
  split_ifs
  · exact h
  · rwa [offerReply_fr]
  · rw [offerReply_fr]
    exact answers s h

theorem handOverCode_leadsTo {code : Nat} {answer : Frame → State → Answer}
    (answers : ∀ f (u : State), fr.LeadsTo u.fr → fr.LeadsTo (answer f u).state.fr) :
    fr.LeadsTo (handOverCode code answer s).fr := by
  unfold handOverCode
  split
  · exact h
  · split_ifs
    exacts [takeCommand_leadsTo (s := dropHead s) h (answers _), h]

/-! ## Starts -/

theorem raiseThermalAgain_leadsTo (g : Setting) : fr.LeadsTo (raiseThermalAgain g s).fr := by
  have held (b : Bool) (kind : Kind) (limit : Int) {u : State} (h : fr.LeadsTo u.fr) :
      fr.LeadsTo (raiseHeld b kind limit u).fr := by
    unfold raiseHeld
    split_ifs
    exacts [raiseFault_leadsTo h _ _, h]
  rw [raiseThermalAgain_eq]
  exact held _ _ _ (held _ _ _ h)

theorem goodImage_leadsTo (g : Setting) : fr.LeadsTo (goodImage g s).fr := by
  have loaded : fr.LeadsTo (loadImage g s).fr := h.operate (.takeMask g.mask)
  have handed : fr.LeadsTo (s.handed g).fr := by
    unfold State.handed
    split_ifs
    exacts [raiseThermalAgain_leadsTo loaded g, loaded]
  exact enterJoining_leadsTo (s := beginLine g.rate .normal (s.handed g)) handed

theorem badImage_leadsTo : fr.LeadsTo (badImage s).fr := by
  have cooled : fr.LeadsTo s.cooled.fr := h.operate (.takeMask 0)
  rw [badImage_eq]
  exact enterUnconfigured_leadsTo (raiseFault_leadsTo cooled _ none)

theorem invalidStrapPath_leadsTo : fr.LeadsTo (invalidStrapPath s).fr :=
  enterUnconfigured_leadsTo (raiseFault_leadsTo h _ none)

end

end Sys2Proof.Machine
end

section
/-! THEOREM. Every step operates on the Fault Recorder by its operations alone, so it keeps the law of the fault line (R147,
R148). -/

namespace Sys2Proof.Machine

section
variable {s t u : State}

theorem leadsTo_of_unlessHeld (h : unlessHeld s u = .next t) (k : s.fr.LeadsTo u.fr) : s.fr.LeadsTo t.fr := by
  rcases unlessHeld_next s u with hn | hn <;> rw [hn] at h <;> obtain rfl := Host.Outcome.next.inj h
  exacts [.refl s.fr, k]

/-! ## Starts -/

theorem fullReset_leadsTo {straps : BitVec 6} (h : exec (.fullReset straps) s = .next t) : s.fr.LeadsTo t.fr := by
  have released : s.fr.LeadsTo (State.released straps s.pending).fr := (Recorder.LeadsTo.refl s.fr).operate .reset
  rw [exec_fullReset] at h
  obtain rfl := Host.Outcome.next.inj h
  split_ifs
  exacts [released, invalidStrapPath_leadsTo released]

theorem resetInputAsserted_leadsTo (h : exec .resetInputAsserted s = .next t) : s.fr.LeadsTo t.fr := by
  obtain rfl := Host.Outcome.next.inj h
  exact (Recorder.LeadsTo.refl s.fr).operate .reset

theorem settingImageReadEnd_leadsTo {bytes : List Byte} (h : exec (.settingImageReadEnd bytes) s = .next t) :
    s.fr.LeadsTo t.fr := by
  have good (g : Setting) (v : State) (fr : v.fr = s.fr) : s.fr.LeadsTo (goodImage g v).fr :=
    goodImage_leadsTo (by rw [fr]; exact .refl _) g
  have bad (v : State) (fr : v.fr = s.fr) : s.fr.LeadsTo (badImage v).fr := badImage_leadsTo (by rw [fr]; exact .refl _)
  refine leadsTo_of_unlessHeld h ?_
  split
  · exact .refl s.fr
  · dsimp only
    split
    · exact bad _ rfl
    · split_ifs
      exacts [good _ _ rfl, bad _ rfl]

theorem softRestartBegin_leadsTo (h : exec .softRestartBegin s = .next t) : s.fr.LeadsTo t.fr := by
  refine leadsTo_of_unlessHeld h ?_
  split_ifs
  exacts [(Recorder.LeadsTo.refl s.fr).operate (.clearAll s.now), .refl s.fr]

/-! ## Measurement, the timers and rounds -/

theorem measurementFrame_leadsTo {bits : List Bool} (h : exec (.measurementFrame bits) s = .next t) :
    s.fr.LeadsTo t.fr := by
  refine leadsTo_of_unlessHeld h ?_
  split
  exacts [.refl s.fr, goodFrame_leadsTo (.refl s.fr) _]

theorem sampleTimerExpiry_leadsTo (h : exec .sampleTimerExpiry s = .next t) : s.fr.LeadsTo t.fr := by
  refine leadsTo_of_unlessHeld h ?_
  split
  exacts [.refl s.fr, .refl s.fr, raiseFault_leadsTo (by exact .refl s.fr) _ _]

theorem holdOffExpiry_leadsTo {k : Slot} (h : exec (.holdOffExpiry k) s = .next t) : s.fr.LeadsTo t.fr := by
  refine leadsTo_of_unlessHeld h ?_
  split
  · exact .refl s.fr
  · rw [release_eq]
    exact reallot_leadsTo (clearRecord_leadsTo (by exact .refl s.fr) _)

theorem cleanRunExpiry_leadsTo {k : Slot} (h : exec (.cleanRunExpiry k) s = .next t) : s.fr.LeadsTo t.fr := by
  refine leadsTo_of_unlessHeld h ?_
  split <;> exact .refl s.fr

theorem roundTimerExpiry_leadsTo (h : exec .roundTimerExpiry s = .next t) : s.fr.LeadsTo t.fr := by
  refine leadsTo_of_unlessHeld h ?_
  split <;> exact .refl s.fr

theorem roundCommit_leadsTo (h : exec .roundCommit s = .next t) : s.fr.LeadsTo t.fr := by
  refine leadsTo_of_unlessHeld h ?_
  split
  · exact .refl s.fr
  · rename_i r _
    rw [commit_eq, roundOver]
    dsimp only
    exact pass_leadsTo (s := trimsCommitted r s) (.refl s.fr)

theorem joinTimerExpiry_leadsTo (h : exec .joinTimerExpiry s = .next t) : s.fr.LeadsTo t.fr := by
  refine leadsTo_of_unlessHeld h ?_
  split
  exacts [.refl s.fr, enterServing_leadsTo (.refl s.fr)]

/-! ## The Neighbour Table and the Frame Processor -/

theorem staleDeadline_leadsTo {a : Nat} (h : exec (.staleDeadline a) s = .next t) : s.fr.LeadsTo t.fr := by
  refine leadsTo_of_unlessHeld h ?_
  split
  · exact .refl s.fr
  · split_ifs <;> exact .refl s.fr

theorem silentDeadline_leadsTo {a : Nat} (h : exec (.silentDeadline a) s = .next t) : s.fr.LeadsTo t.fr := by
  refine leadsTo_of_unlessHeld h ?_
  split
  · exact .refl s.fr
  · split_ifs
    exacts [.refl s.fr, raiseFault_leadsTo (by exact .refl s.fr) _ _]

theorem goneDeadline_leadsTo {a : Nat} (h : exec (.goneDeadline a) s = .next t) : s.fr.LeadsTo t.fr := by
  refine leadsTo_of_unlessHeld h ?_
  split
  · exact .refl s.fr
  · dsimp only
    split_ifs
    exacts [.refl s.fr, clearNbl_leadsTo (by exact .refl s.fr) _, .refl s.fr]

theorem beaconApply_leadsTo (h : exec .beaconApply s = .next t) : s.fr.LeadsTo t.fr := by
  refine leadsTo_of_unlessHeld h ?_
  split
  · exact .refl s.fr
  · split_ifs
    · rw [dropHead_fr]
      exact applyBeacon_leadsTo (.refl s.fr) _ _
    · exact .refl s.fr
    · exact .refl s.fr

theorem frameDrop_leadsTo (h : exec .frameDrop s = .next t) : s.fr.LeadsTo t.fr := by
  refine leadsTo_of_unlessHeld h ?_
  split
  · exact .refl s.fr
  · split_ifs <;> exact .refl s.fr

theorem commandHandover_leadsTo (h : exec .commandHandover s = .next t) : s.fr.LeadsTo t.fr := by
  refine leadsTo_of_unlessHeld h ?_
  split
  · exact .refl s.fr
  · split_ifs
    · exact takeCommand_leadsTo (by exact .refl s.fr) fun u before => answerOf_leadsTo before _
    · exact .refl s.fr
    · exact .refl s.fr

/-- The row of one command (log entry 12). -/
theorem handOver_leadsTo {code : Nat} {answer : Frame → State → Answer}
    (h : unlessHeld s (handOverCode code answer s) = .next t)
    (answers : ∀ f (u : State), s.fr.LeadsTo u.fr → s.fr.LeadsTo (answer f u).state.fr) : s.fr.LeadsTo t.fr :=
  leadsTo_of_unlessHeld h (handOverCode_leadsTo (.refl s.fr) answers)

/-! ## The line -/

theorem peerFrameReceived_leadsTo {line : Arrival} {hold : Bool} (h : exec (.peerFrameReceived line hold) s = .next t) :
    s.fr.LeadsTo t.fr := by
  refine leadsTo_of_unlessHeld h ?_
  split_ifs
  exacts [receiveRest_leadsTo (.refl s.fr) _ _, receiveFrame_leadsTo (.refl s.fr) _ _, .refl s.fr, .refl s.fr,
    .refl s.fr]

theorem transmissionStart_leadsTo {n : Nat} (h : exec (.transmissionStart n) s = .next t) : s.fr.LeadsTo t.fr := by
  refine leadsTo_of_unlessHeld h ?_
  dsimp only
  split_ifs
  · exact .refl s.fr
  · split <;> exact .refl s.fr
  · exact .refl s.fr
  · exact .refl s.fr

theorem arbitrationLost_leadsTo {position : Nat} {x : Sample} (h : exec (.arbitrationLost position x) s = .next t) :
    s.fr.LeadsTo t.fr := by
  refine leadsTo_of_unlessHeld h ?_
  split
  · exact .refl s.fr
  · split_ifs <;> exact .refl s.fr

theorem bitError_leadsTo {position : Nat} {x : Sample} {ack hold : Bool}
    (h : exec (.bitError position x ack hold) s = .next t) : s.fr.LeadsTo t.fr := by
  refine leadsTo_of_unlessHeld h ?_
  split
  · exact .refl s.fr
  · dsimp only
    split_ifs
    exacts [recordBeacon_leadsTo (by exact .refl s.fr) _, .refl s.fr, .refl s.fr, .refl s.fr]

theorem transmitFrameEnd_leadsTo {ack hold : Bool} (h : exec (.transmitFrameEnd ack hold) s = .next t) :
    s.fr.LeadsTo t.fr := by
  refine leadsTo_of_unlessHeld h ?_
  split
  · exact .refl s.fr
  · exact .refl s.fr
  · exact .refl s.fr
  · rename_i a _
    have removed : s.fr.LeadsTo (removeAttempted a.owner ack (setPhase .quiet (countClean (frameEnds hold s)))).fr := by
      rw [removeAttempted_fr]
      exact .refl s.fr
    dsimp only
    generalize removeAttempted a.owner ack _ = v at removed ⊢
    have probed : s.fr.LeadsTo (probeSucceeded v).fr :=
      clearRecord_leadsTo (clearRecord_leadsTo (by exact removed) _) _
    split_ifs
    · rw [takeFollowUp_fr]
      exact recordBeacon_leadsTo probed _
    · rw [takeFollowUp_fr]
      exact recordBeacon_leadsTo removed _
    · exact removed

theorem bitErrorSettle_leadsTo {n : Nat} (h : exec (.bitErrorSettle n) s = .next t) : s.fr.LeadsTo t.fr := by
  refine leadsTo_of_unlessHeld h ?_
  split
  · exact .refl s.fr
  · exact .refl s.fr
  · exact .refl s.fr
  · dsimp only
    split_ifs
    exacts [settle_leadsTo (by exact .refl s.fr) _ _, .refl s.fr]

theorem breakDetected_leadsTo (h : exec .breakDetected s = .next t) : s.fr.LeadsTo t.fr := by
  refine leadsTo_of_unlessHeld h ?_
  dsimp only
  split <;> exact .refl s.fr

theorem breakEnd_leadsTo (h : exec .breakEnd s = .next t) : s.fr.LeadsTo t.fr := by
  refine leadsTo_of_unlessHeld h ?_
  split_ifs <;> exact .refl s.fr

theorem beaconTimerExpiry_leadsTo (h : exec .beaconTimerExpiry s = .next t) : s.fr.LeadsTo t.fr := by
  refine leadsTo_of_unlessHeld h ?_
  split <;> exact .refl s.fr

theorem coolDownExpiry_leadsTo (h : exec .coolDownExpiry s = .next t) : s.fr.LeadsTo t.fr := by
  refine leadsTo_of_unlessHeld h ?_
  split <;> exact .refl s.fr

theorem replyEnqueue_leadsTo (h : exec .replyEnqueue s = .next t) : s.fr.LeadsTo t.fr := by
  refine leadsTo_of_unlessHeld h ?_
  split
  · exact .refl s.fr
  · split_ifs <;> exact .refl s.fr

theorem streamFrameBuild_leadsTo (h : exec .streamFrameBuild s = .next t) : s.fr.LeadsTo t.fr := by
  refine leadsTo_of_unlessHeld h ?_
  split
  · exact .refl s.fr
  · split_ifs <;> exact .refl s.fr

/-! ## Every command, every step -/

theorem exec_leadsTo {c : Instr} (h : exec c s = .next t) : s.fr.LeadsTo t.fr := by
  cases c with
  | fullReset straps => exact fullReset_leadsTo h
  | resetInputAsserted => exact resetInputAsserted_leadsTo h
  | settingImageReadEnd bytes => exact settingImageReadEnd_leadsTo h
  | measurementFrame bits => exact measurementFrame_leadsTo h
  | levelFrameSent => exact leadsTo_of_unlessHeld h (.refl s.fr)
  | sampleTimerExpiry => exact sampleTimerExpiry_leadsTo h
  | holdOffExpiry slot => exact holdOffExpiry_leadsTo h
  | cleanRunExpiry slot => exact cleanRunExpiry_leadsTo h
  | roundTimerExpiry => exact roundTimerExpiry_leadsTo h
  | roundCommit => exact roundCommit_leadsTo h
  | joinTimerExpiry => exact joinTimerExpiry_leadsTo h
  | staleDeadline address => exact staleDeadline_leadsTo h
  | silentDeadline address => exact silentDeadline_leadsTo h
  | goneDeadline address => exact goneDeadline_leadsTo h
  | beaconTimerExpiry => exact beaconTimerExpiry_leadsTo h
  | coolDownExpiry => exact coolDownExpiry_leadsTo h
  | peerFrameReceived line othersHold => exact peerFrameReceived_leadsTo h
  | transmissionStart recessive => exact transmissionStart_leadsTo h
  | arbitrationLost position readBack => exact arbitrationLost_leadsTo h
  | bitError position readBack ack hold => exact bitError_leadsTo h
  | transmitFrameEnd ack hold => exact transmitFrameEnd_leadsTo h
  | bitErrorSettle recessive => exact bitErrorSettle_leadsTo h
  | breakDetected => exact breakDetected_leadsTo h
  | breakEnd => exact breakEnd_leadsTo h
  | beaconApply => exact beaconApply_leadsTo h
  | commandHandover => exact commandHandover_leadsTo h
  | frameDrop => exact frameDrop_leadsTo h
  | identify => exact handOver_leadsTo h fun _ _ before => before
  | ackFaults => exact handOver_leadsTo h fun _ _ before => answerAckFaults_leadsTo before _
  | clearTrip => exact handOver_leadsTo h fun _ _ before => answerClearTrip_leadsTo before _
  | restore => exact handOver_leadsTo h fun _ _ before => answerRestore_leadsTo before
  | restart => exact handOver_leadsTo h fun _ _ before => answerRestart_leadsTo before
  | dump => exact handOver_leadsTo h fun f _ before => answerDump_leadsTo before f
  | replyEnqueue => exact replyEnqueue_leadsTo h
  | streamFrameBuild => exact streamFrameBuild_leadsTo h
  | softRestartBegin => exact softRestartBegin_leadsTo h

/-- A step changes the Fault Recorder by its operations alone. -/
theorem step_leadsTo (h : step s = .next t) : s.fr.LeadsTo t.fr := by
  unfold step at h
  split at h
  · obtain rfl := Host.Outcome.next.inj h
    unfold State.tick
    split_ifs <;> exact .refl s.fr
  · rename_i c rest _
    exact exec_leadsTo (s := { s with pending := rest }) h

end

/-- Settles O4: a step is a run of the Fault Recorder's operations, each of which leaves the line as log and mask give it. -/
theorem faultLineLawKept : Obligations.FaultLineLawKept := fun s t law h =>
  (faultLineLaw_iff t).mpr ((step_leadsTo h).lined ((faultLineLaw_iff s).mp law))

end Sys2Proof.Machine
end

section
/-! SUPPORT. The end of an image read without a good image: CFG raised and Unconfigured entered (R157, R160, R167). -/

namespace Sys2Proof.Machine

section
variable {s : State}

/-! ## The node state as a fault leaves it -/

/-- Of Node Control a fault changes at most the node state and the join timer (R149, R150). -/
theorem raiseFault_nc (key : Key) (x : Option (Int × Int)) (s : State) :
    (raiseFault key x s).nc =
      { s.nc with state := (raiseFault key x s).nc.state, joinTimer := (raiseFault key x s).nc.joinTimer } := by
  have withdraws (u : State) :
      (withdraw u).nc = { u.nc with state := (withdraw u).nc.state, joinTimer := (withdraw u).nc.joinTimer } := by
    unfold withdraw
    split_ifs
    · rw [enterWithdrawn_nc]
    · rfl
  refine raiseFault_brings
    (R := fun u v => v.nc = { u.nc with state := v.nc.state, joinTimer := v.nc.joinTimer })
    (fun _ => rfl) (fun first second => ?_) (fun u => ?_) withdraws (fun u => ?_) key x s
  · rw [second, first]
  · rw [alarm_nc]
  · rw [breakRequest_nc]

/-! ## Entry to Unconfigured -/

theorem unconfigured_nc (s : State) :
    s.unconfigured.nc = { s.nc with state := some .unconfigured, joinTimer := .stopped } := by
  rw [State.unconfigured, stateChanged_nc]
  rfl

/-- No slot takes part in Unconfigured, so each is without grant and trims (R6, R22, R160). -/
theorem unconfigured_slot (s : State) (k : Slot) :
    (s.unconfigured.ca.slots.get k).grant = 0 ∧ (s.unconfigured.ca.slots.get k).bias = 0 ∧
      (s.unconfigured.ca.slots.get k).fill = 0 := by
  have quiet : (zeroTrims s.unconfiguring).participates k = false := by
    simp [State.participates, State.onAir, State.unconfiguring]
  rw [State.unconfigured, stateChanged_slot_silent quiet, zeroTrims_slot]
  exact ⟨rfl, rfl, rfl⟩

theorem unconfigured_spares {key : Key} (short : key ≠ .plain .flr) : Spares key s s.unconfigured := by
  have entering : Spares key s s.unconfiguring := .of_same rfl rfl
  rw [State.unconfigured]
  exact entering.trans (zeroTrims_spares.trans (stateChanged_spares short))

theorem unconfigured_marker (running : s.nc.restart ≠ .inProgress) (quiet : s.lc.phase = .quiet) :
    .marker true ∈ s.unconfigured.lc.txQueue := by
  rw [State.unconfigured]
  exact stateChanged_marker (s := zeroTrims s.unconfiguring) running quiet

theorem unconfigured_mi (s : State) :
    s.unconfigured.mi = { s.mi with sampleTimer := .stopped, derate := 0, mute := false } := by
  rw [State.unconfigured, stateChanged_mi]
  rfl

theorem unconfigured_su (s : State) : s.unconfigured.su = ⟨.stopped, none⟩ := by
  rw [State.unconfigured, stateChanged_su]
  rfl

theorem unconfigured_line (s : State) :
    s.unconfigured.lc.inUse = s.lc.inUse ∧ s.unconfigured.lc.mode = s.lc.mode ∧
      s.unconfigured.lc.rate = s.lc.rate ∧ s.unconfigured.lc.idleNeed = s.lc.idleNeed := by
  rw [State.unconfigured, stateChanged_inUse, stateChanged_mode, stateChanged_rate, stateChanged_idleNeed]
  exact ⟨rfl, rfl, rfl, rfl⟩

/-! ## The end of the read -/

theorem badImage_eq_unconfigured (s : State) :
    badImage s = startBeaconTimer Config.unconfiguredPeriod s.refusedImage.unconfigured := rfl

theorem refusedImage_nc (s : State) :
    s.refusedImage.nc =
      { s.nc with
        state := s.refusedImage.nc.state
        joinTimer := s.refusedImage.nc.joinTimer
        restart := .none
        restartDue := false
        setting := none } := by
  have raised := raiseFault_nc (.plain .cfg) none s.cooled
  unfold State.refusedImage
  generalize raiseFault (.plain .cfg) none s.cooled = u at *
  rw [beginLine_nc, restartOver_nc, raised]
  rfl

/-- Node Control in Unconfigured after a bad image: no image held, no restart (R160, R167). -/
theorem badImage_nc (s : State) :
    (badImage s).nc =
      { s.nc with
        state := some .unconfigured
        restart := .none
        restartDue := false
        setting := none
        joinTimer := .stopped } := by
  rw [badImage_eq_unconfigured, startBeaconTimer_nc, unconfigured_nc, refusedImage_nc]

theorem refusedImage_mi (s : State) : s.refusedImage.mi = { s.mi with derate := 0, mute := false } := by
  rw [State.refusedImage, beginLine_mi, restartOver_mi, raiseFault_mi]
  rfl

theorem refusedImage_phase (s : State) : s.refusedImage.lc.phase = s.lc.phase := by
  have raised := raiseFault_phase s.cooled (.plain .cfg) none
  unfold State.refusedImage
  generalize raiseFault (.plain .cfg) none s.cooled = u at *
  exact raised

theorem badImage_mi (s : State) :
    (badImage s).mi = { s.mi with sampleTimer := .stopped, derate := 0, mute := false } := by
  rw [badImage_eq_unconfigured, startBeaconTimer_mi, unconfigured_mi, refusedImage_mi]

theorem badImage_su (s : State) : (badImage s).su = ⟨.stopped, none⟩ := by
  rw [badImage_eq_unconfigured, startBeaconTimer_su, unconfigured_su]

theorem badImage_frame (s : State) :
    (badImage s).now = s.now ∧ (badImage s).nt = s.nt ∧ (badImage s).cu = s.cu ∧ (badImage s).pending = s.pending := by
  simp [badImage]

/-- The line is used in Normal at 250 kbit/s, its beacon timer at 4 half-seconds (R79, R160). -/
theorem badImage_line (s : State) :
    (badImage s).lc.inUse = true ∧ (badImage s).lc.mode = .normal ∧ (badImage s).lc.rate = .kbit250 ∧
      (badImage s).lc.idleNeed = 12 ∧ (badImage s).lc.beaconPeriod = some 4 ∧
      (badImage s).lc.beaconTimer = .running ((badImage s).now + 2000) := by
  obtain ⟨inUse, mode, rate, idleNeed⟩ := unconfigured_line s.refusedImage
  rw [badImage_eq_unconfigured]
  generalize s.refusedImage.unconfigured = u at *
  exact ⟨inUse, mode, rate, idleNeed, rfl, rfl⟩

theorem badImage_marker (quiet : s.lc.phase = .quiet) : .marker true ∈ (badImage s).lc.txQueue := by
  have running : s.refusedImage.nc.restart ≠ .inProgress := by
    rw [refusedImage_nc]
    exact nofun
  have marked := unconfigured_marker running (refusedImage_phase s ▸ quiet)
  rw [badImage_eq_unconfigured]
  generalize s.refusedImage.unconfigured = u at *
  exact marked

theorem badImage_slot (s : State) (k : Slot) :
    ((badImage s).ca.slots.get k).grant = 0 ∧ ((badImage s).ca.slots.get k).bias = 0 ∧
      ((badImage s).ca.slots.get k).fill = 0 := by
  rw [badImage_eq_unconfigured, startBeaconTimer_ca]
  exact unconfigured_slot s.refusedImage k

/-- CFG stands Active where the log had room for it (R143, R160). -/
theorem badImage_cfg (room : s.fr.log.length < 32) : (badImage s).fr.isActive (.plain .cfg) = true := by
  obtain ⟨active, -⟩ : Reported (.plain .cfg) none s.cooled (raiseFault (.plain .cfg) none s.cooled) :=
    raiseFault_reported (by decide) room
  have entered : Spares (.plain .cfg) s.refusedImage s.refusedImage.unconfigured := unconfigured_spares (by decide)
  rw [badImage_eq_unconfigured, startBeaconTimer_fr, entered.isActive]
  exact active

theorem badImage_lined (s : State) : (badImage s).fr.lined := by
  have cooled : s.cooled.fr.lined := evaluate_lined _
  have refused : s.cooled.fr.LeadsTo s.refusedImage.fr := raiseFault_leadsTo (.refl s.cooled.fr) _ none
  exact (enterUnconfigured_leadsTo refused).lined cooled

/-- CFG is Severe, so while it is Active it pulls the fault line (R148). -/
theorem faultLine_of_cfg {u : State} (law : FaultLineLaw u) (active : u.fr.isActive (.plain .cfg) = true) :
    u.fr.faultLine = true := by
  obtain ⟨r, logged, key, standing⟩ := (isActive_iff _ _).mp active
  exact law.mpr ⟨r, logged, standing, .inl (by rw [key]; rfl)⟩

/-- Stated of a state `t` that equals the result, since SettingLaw of the result itself unfolds to a match on it. -/
theorem badImage_settingLaw {t : State} (result : badImage s = t) : SettingLaw t := by
  have settled := badImage_settled s
  rw [result] at settled
  exact settled.toCarried.settingLaw (unloadImage_settingLaw s)

theorem badImage_powerLaw (s : State) : PowerLaw (badImage s) :=
  (badImage_settled s).power (unloadImage_budgetStands s)

/-! ## A late image and a bad one -/

/-- The read is over: late, after the 50 ms and without a check value, or with the check value of its 128 bytes (R157). -/
def State.readEnded (s : State) (bytes : List Byte) (began : Nat) : State :=
  { s with
    now := if bytes.length < 128 then s.moment (began + 50) else s.now
    nc :=
      { s.nc with
        reading := none
        checkValue := if bytes.length < 128 then 0 else imageCrc bytes } }

theorem exec_lateImageRead {bytes : List Byte} {began : Nat} (acts : s.acts) (reading : s.nc.reading = some began)
    (late : bytes.length < 128) :
    exec (.settingImageReadEnd bytes) s = .next (badImage (s.readEnded bytes began)) := by
  have missing : delivered bytes = none := if_neg (by exact not_le.mpr late)
  rw [exec, execSettingImageReadEnd, unlessHeld_acts acts, reading, State.readEnded, if_pos late, if_pos late]
  dsimp only
  rw [missing]
  rfl

theorem exec_badImageRead {bytes : List Byte} {began : Nat} (acts : s.acts) (reading : s.nc.reading = some began)
    (length : bytes.length = 128) (bad : imageGood bytes = false) :
    exec (.settingImageReadEnd bytes) s = .next (badImage (s.readEnded bytes began)) := by
  have image : delivered bytes = some bytes := by
    rw [delivered, if_pos (by exact length.ge), List.take_of_length_le (by exact length.le)]
  rw [exec, execSettingImageReadEnd, unlessHeld_acts acts, reading, State.readEnded, if_neg (by omega),
    if_neg (by omega)]
  dsimp only
  rw [image]
  dsimp only
  rw [bad, if_neg Bool.false_ne_true]

end

/-- Settles O24: late or bad, the image is refused, and the entry to Unconfigured keeps the CFG record. -/
theorem badImageEntersUnconfigured : Obligations.BadImageEntersUnconfigured := by
  intro bytes s began acts reading refused
  have result : exec (.settingImageReadEnd bytes) s = .next (badImage (s.readEnded bytes began)) := by
    rcases refused with late | ⟨length, bad⟩
    exacts [exec_lateImageRead acts reading late, exec_badImageRead acts reading length bad]
  have control := badImage_nc (s.readEnded bytes began)
  have intake := badImage_mi (s.readEnded bytes began)
  have spread := badImage_su (s.readEnded bytes began)
  have power := badImage_powerLaw (s.readEnded bytes began)
  have faultLine : FaultLineLaw (badImage (s.readEnded bytes began)) := faultLineLaw_of_lined (badImage_lined _)
  have slot := badImage_slot (s.readEnded bytes began)
  have marker := @badImage_marker (s.readEnded bytes began)
  have cfg := @badImage_cfg (s.readEnded bytes began)
  obtain ⟨now, nt, cu, pending⟩ := badImage_frame (s.readEnded bytes began)
  obtain ⟨inUse, mode, rate, idleNeed, beaconPeriod, beaconTimer⟩ := badImage_line (s.readEnded bytes began)
  generalize refuses : badImage (s.readEnded bytes began) = t at *
  exact ⟨t, result, now, control, badImage_settingLaw refuses, power, faultLine,
    fun room => ⟨cfg room, faultLine_of_cfg faultLine (cfg room)⟩, slot, intake, spread, inUse, mode, rate, idleNeed,
    beaconPeriod, beaconTimer, marker, nt, cu, pending⟩

end Sys2Proof.Machine
end

section
/-! SUPPORT. RESTORE: refused, without effect, or back to Joining (R161, R164, R174). -/

namespace Sys2Proof.Machine

section
variable {s : State} {g : Setting}

/-! ## The three answers -/

theorem severeActive_iff (fr : Recorder) :
    fr.severeActive = true ↔ ∃ r ∈ fr.log, r.active = true ∧ r.key.kind.faultClass = .severe := by
  simp [Recorder.severeActive, Record.severe, and_comm]

theorem answerRestore_refused (withdrawn : s.nc.state = some .withdrawn) (severe : s.fr.severeActive = true) :
    answerRestore s = reject .refused s := by
  rw [answerRestore, if_pos withdrawn, if_pos severe]

theorem answerRestore_elsewhere {n : NodeState} (state : s.nc.state = some n) (other : n ≠ .withdrawn) :
    answerRestore s = accept [n.shown] s := by
  have shown : byteOf (stateCodeOf (some n)) = n.shown := by cases n <;> rfl
  rw [answerRestore, state, if_neg (other ∘ Option.some.inj), shown]

theorem answerRestore_joins (withdrawn : s.nc.state = some .withdrawn) (mild : s.fr.severeActive = false)
    (held : s.nc.setting = some g) : answerRestore s = accept [1] (s.joined.timed g) := by
  obtain ⟨-, -, nc, -⟩ := joined_frame s
  rw [answerRestore, if_pos withdrawn, mild, if_neg Bool.false_ne_true, enterJoining_eq held]
  dsimp only
  rw [State.timed, nc]
  rfl

/-! ## Back to Joining -/

theorem timed_allotted (h : s.allotted) : (s.timed g).allotted := h

theorem timed_offFlagsStand (h : s.offFlagsStand) : (s.timed g).offFlagsStand := h

theorem joined_trims (s : State) (k : Slot) :
    (s.joined.ca.slots.get k).bias = 0 ∧ (s.joined.ca.slots.get k).fill = 0 := by
  rw [State.joined]
  exact stateChanged_zeroTrims _ k

theorem joined_line (s : State) : s.joined.lc.rxQueue = s.lc.rxQueue ∧ s.joined.lc.mode = s.lc.mode := by
  rw [State.joined, stateChanged_rxQueue, stateChanged_mode]
  exact ⟨rfl, rfl⟩

theorem restore_exec {f : Frame} {rest : List Frame} (head : s.commandAtHead f rest 4) :
    exec .restore s = .next (offerReply f (answerRestore (headTaken rest s))) := by
  rw [exec, execRestore, unlessHeld_acts head.1, handOverCode_at _ head]

end

/-- Settles O56, by the node state and, in Withdrawn, by whether an Active Severe record stands. -/
theorem restoreReturnsToJoining : Obligations.RestoreReturnsToJoining := by
  intro s f rest head severe answered
  have idle := commandAtHead_idle head
  have result := restore_exec head
  have elsewhere {n : NodeState} (state : s.nc.state = some n) (other : n ≠ .withdrawn) :
      exec .restore s = .next (answered 0 [n.shown]) := by
    rw [result, answerRestore_elsewhere (s := headTaken rest s) state other, offerReply_headTaken rfl rfl idle]
    rfl
  refine ⟨fun withdrawn stands => ?_, fun state => elsewhere state nofun, fun state => elsewhere state nofun,
    fun state => elsewhere state nofun, fun g withdrawn none held => ?_⟩
  · rw [result, answerRestore_refused (s := headTaken rest s) withdrawn ((severeActive_iff _).mpr stands),
      offerReply_headTaken rfl rfl idle]
    rfl
  · have mild : (headTaken rest s).fr.severeActive = false := Bool.eq_false_iff.mpr (mt (severeActive_iff _).mp none)
    rw [answerRestore_joins (s := headTaken rest s) withdrawn mild held] at result
    obtain ⟨now, mi, nc, nt, su, cu, pending⟩ := joined_frame (headTaken rest s)
    obtain ⟨queue, mode⟩ := joined_line (headTaken rest s)
    have trims := joined_trims (headTaken rest s)
    have trip := joined_trip (headTaken rest s)
    have allotted : (headTaken rest s).joined.allotted := by
      rw [State.joined]
      exact stateChanged_allotted _
    have stands : (headTaken rest s).joined.offFlagsStand := by
      rw [State.joined]
      exact stateChanged_offFlagsStand _
    generalize (headTaken rest s).joined = u at *
    have waits := offerReply_waits (f := f) (a := accept [1] (u.timed g)) rfl
      ((congrArg Commands.current cu).trans idle)
    have settled : u = { s with lc := u.lc, ca := u.ca, pm := u.pm, fr := u.fr, nc := u.nc } :=
      State.ext_blocks now mi rfl rfl rfl nt su rfl rfl cu pending
    refine ⟨_, result, ?_⟩
    rw [waits]
    refine ⟨?_, fun k => ⟨(trims k).1, (trims k).2, trip k⟩, timed_allotted allotted, timed_offFlagsStand stands, ?_, ?_,
      ?_, queue, ?_⟩ <;> dsimp only [accept, State.timed]
    · rw [nc, now]
      rfl
    · rw [now]
      rfl
    · rw [mi, now]
      rfl
    · rw [mode, cu]
      rfl
    · rw [settled]

end Sys2Proof.Machine
end

section
/-! SUPPORT. What a command does with the queue of those that wait: nothing; and the reset input, which silences every
command but two (R156). -/

namespace Sys2Proof.Machine

section
variable (s : State)

/-! ## The parts of the meanings leave the queue of waiting commands -/

theorem closeFrame_pending : (closeFrame s).pending = s.pending := by
  unfold closeFrame
  split <;> rfl

theorem takeRest_pending (f : Frame) (hold : Bool) : (takeRest f hold s).pending = s.pending := by
  unfold takeRest
  dsimp only
  split_ifs <;> simp

theorem receiveRest_pending (line : List Sample) (hold : Bool) : (receiveRest line hold s).pending = s.pending := by
  unfold receiveRest
  split
  · rfl
  · rfl
  · exact closeFrame_pending _
  · exact (closeFrame_pending _).trans (takeRest_pending s _ hold)

theorem receiveFrame_pending (line : List Sample) (hold : Bool) : (receiveFrame line hold s).pending = s.pending := by
  unfold receiveFrame
  split
  · rfl
  · rfl
  · simp [takeBadFrame]
  · simp [takeFrame]

theorem settle_pending (a : Attempt) (queued : Bool) : (settle a queued s).pending = s.pending := by
  unfold settle
  dsimp only
  split_ifs <;> simp

theorem buildStreamFrame_pending (c : Stream) : (buildStreamFrame c s).pending = s.pending := rfl

theorem badImage_pending : (badImage s).pending = s.pending := by
  obtain ⟨-, -, -, pending⟩ := badImage_frame s
  exact pending

theorem goodImage_pending (g : Setting) : (goodImage g s).pending = s.pending := by
  obtain ⟨-, -, -, -, pending⟩ := goodImage_frame s g
  exact pending

theorem invalidStrapPath_pending : (invalidStrapPath s).pending = s.pending := by
  simp [invalidStrapPath]

/-! ## So do the commands of a monitor station -/

theorem answerAckFaults_pending (args : List Byte) : (answerAckFaults args s).state.pending = s.pending := by
  unfold answerAckFaults
  split_ifs <;> rfl

theorem answerClearTrip_pending (args : List Byte) : (answerClearTrip args s).state.pending = s.pending := by
  unfold answerClearTrip
  split_ifs <;> simp [accept, reject]

theorem answerRestore_pending : (answerRestore s).state.pending = s.pending := by
  unfold answerRestore
  split_ifs <;> simp [accept, reject]

theorem answerRestart_pending : (answerRestart s).state.pending = s.pending := by
  unfold answerRestart
  split_ifs <;> rfl

theorem answerDump_pending (f : Frame) : (answerDump f s).state.pending = s.pending := by
  unfold answerDump
  dsimp only
  split_ifs <;> rfl

theorem answerOf_pending (f : Frame) : (answerOf f s).state.pending = s.pending := by
  unfold answerOf
  split_ifs
  exacts [rfl, answerAckFaults_pending s _, answerClearTrip_pending s _, answerRestore_pending s,
    answerRestart_pending s, answerDump_pending s f, rfl]

theorem offerReply_pending (f : Frame) (a : Answer) : (offerReply f a).pending = a.state.pending := by
  unfold offerReply
  dsimp only
  split_ifs
  exacts [restartReplyGone_pending _, rfl, rfl]

variable {s}

theorem takeCommand_pending {f : Frame} {answer : State → Answer}
    (answers : ∀ u : State, (answer u).state.pending = u.pending) : (takeCommand f answer s).pending = s.pending := by
  unfold takeCommand
  split_ifs
  exacts [rfl, offerReply_pending f _, (offerReply_pending f _).trans (answers s)]

theorem handOverCode_pending {code : Nat} {answer : Frame → State → Answer}
    (answers : ∀ f (u : State), (answer f u).state.pending = u.pending) :
    (handOverCode code answer s).pending = s.pending := by
  unfold handOverCode
  split
  · rfl
  · split_ifs
    exacts [takeCommand_pending (s := dropHead s) (answers _), rfl]

/-! ## Every command is answered and leaves the queue -/

/-- The command is answered with a next state, in which the same commands wait. -/
def Answered (c : Instr) (s : State) : Prop := ∃ t, exec c s = .next t ∧ t.pending = s.pending

/-- The command's effect, or none while the reset input is held: either way the queue stands. -/
theorem answered_of_unlessHeld {c : Instr} {u : State} (gate : exec c s = unlessHeld s u)
    (h : u.pending = s.pending) : Answered c s :=
  (unlessHeld_next s u).elim (fun held => ⟨s, gate.trans held, rfl⟩) fun runs => ⟨u, gate.trans runs, h⟩

end

section
variable (s : State)

theorem fullReset_answered (straps : BitVec 6) : Answered (.fullReset straps) s := by
  refine ⟨_, exec_fullReset straps s, ?_⟩
  split_ifs
  exacts [rfl, invalidStrapPath_pending (State.released straps s.pending)]

theorem settingImageReadEnd_answered (bytes : List Byte) : Answered (.settingImageReadEnd bytes) s := by
  refine answered_of_unlessHeld rfl ?_
  split
  · rfl
  · dsimp only
    split
    · exact badImage_pending _
    · split_ifs
      exacts [goodImage_pending _ _, badImage_pending _]

theorem measurementFrame_answered (bits : List Bool) : Answered (.measurementFrame bits) s := by
  refine answered_of_unlessHeld rfl ?_
  split
  exacts [rfl, goodFrame_pending _ _]

theorem sampleTimerExpiry_answered : Answered .sampleTimerExpiry s := by
  refine answered_of_unlessHeld rfl ?_
  split
  exacts [rfl, rfl, raiseFault_pending _ _ _]

theorem holdOffExpiry_answered (k : Slot) : Answered (.holdOffExpiry k) s := by
  refine answered_of_unlessHeld rfl ?_
  split
  exacts [rfl, release_pending _ _]

theorem roundCommit_answered : Answered .roundCommit s := by
  refine answered_of_unlessHeld rfl ?_
  split
  exacts [rfl, commit_pending _ _]

theorem joinTimerExpiry_answered : Answered .joinTimerExpiry s := by
  refine answered_of_unlessHeld rfl ?_
  split
  exacts [rfl, enterServing_pending _]

theorem staleDeadline_answered (a : Nat) : Answered (.staleDeadline a) s := by
  refine answered_of_unlessHeld rfl ?_
  split
  · rfl
  · split_ifs <;> rfl

theorem silentDeadline_answered (a : Nat) : Answered (.silentDeadline a) s := by
  refine answered_of_unlessHeld rfl ?_
  split
  · rfl
  · split_ifs
    exacts [rfl, raiseFault_pending _ _ _]

theorem goneDeadline_answered (a : Nat) : Answered (.goneDeadline a) s := by
  refine answered_of_unlessHeld rfl ?_
  split
  · rfl
  · dsimp only
    split_ifs
    exacts [rfl, clearNbl_pending _ _, rfl]

theorem peerFrameReceived_answered (line : Arrival) (hold : Bool) : Answered (.peerFrameReceived line hold) s := by
  refine answered_of_unlessHeld rfl ?_
  split_ifs
  exacts [receiveRest_pending s _ _, receiveFrame_pending s _ _, rfl, rfl, rfl]

theorem transmissionStart_answered (n : Nat) : Answered (.transmissionStart n) s := by
  refine answered_of_unlessHeld rfl ?_
  dsimp only
  split_ifs
  · rfl
  · split <;> rfl
  · rfl
  · rfl

theorem arbitrationLost_answered (position : Nat) (x : Sample) : Answered (.arbitrationLost position x) s := by
  refine answered_of_unlessHeld rfl ?_
  split
  · rfl
  · split_ifs <;> rfl

theorem bitError_answered (position : Nat) (x : Sample) (ack hold : Bool) :
    Answered (.bitError position x ack hold) s := by
  refine answered_of_unlessHeld rfl ?_
  split
  · rfl
  · dsimp only
    split_ifs
    exacts [recordBeacon_pending _ _, rfl, rfl, rfl]

theorem transmitFrameEnd_answered (ack hold : Bool) : Answered (.transmitFrameEnd ack hold) s := by
  refine answered_of_unlessHeld rfl ?_
  split
  · rfl
  · rfl
  · rfl
  · dsimp only
    split_ifs <;> simp

theorem bitErrorSettle_answered (n : Nat) : Answered (.bitErrorSettle n) s := by
  refine answered_of_unlessHeld rfl ?_
  split
  · rfl
  · rfl
  · rfl
  · dsimp only
    split_ifs
    exacts [settle_pending _ _ _, rfl]

theorem beaconApply_answered : Answered .beaconApply s := by
  refine answered_of_unlessHeld rfl ?_
  split
  · rfl
  · split_ifs
    exacts [applyBeacon_pending _ _ _, rfl, rfl]

theorem frameDrop_answered : Answered .frameDrop s := by
  refine answered_of_unlessHeld rfl ?_
  split
  · rfl
  · split_ifs <;> rfl

theorem commandHandover_answered : Answered .commandHandover s := by
  refine answered_of_unlessHeld rfl ?_
  split
  · rfl
  · split_ifs
    exacts [takeCommand_pending (s := dropHead s) fun u => answerOf_pending u _, rfl, rfl]

theorem replyEnqueue_answered : Answered .replyEnqueue s := by
  refine answered_of_unlessHeld rfl ?_
  split
  · rfl
  · split_ifs <;> rfl

theorem streamFrameBuild_answered : Answered .streamFrameBuild s := by
  refine answered_of_unlessHeld rfl ?_
  split
  · rfl
  · split_ifs
    exacts [buildStreamFrame_pending s _, rfl]

theorem exec_answered (c : Instr) : Answered c s := by
  cases c with
  | fullReset straps => exact fullReset_answered s straps
  | resetInputAsserted => exact ⟨_, rfl, rfl⟩
  | settingImageReadEnd bytes => exact settingImageReadEnd_answered s bytes
  | measurementFrame bits => exact measurementFrame_answered s bits
  | levelFrameSent => exact answered_of_unlessHeld rfl rfl
  | sampleTimerExpiry => exact sampleTimerExpiry_answered s
  | holdOffExpiry slot => exact holdOffExpiry_answered s slot
  | cleanRunExpiry slot => exact answered_of_unlessHeld rfl (by split <;> rfl)
  | roundTimerExpiry => exact answered_of_unlessHeld rfl (by split <;> rfl)
  | roundCommit => exact roundCommit_answered s
  | joinTimerExpiry => exact joinTimerExpiry_answered s
  | staleDeadline address => exact staleDeadline_answered s address
  | silentDeadline address => exact silentDeadline_answered s address
  | goneDeadline address => exact goneDeadline_answered s address
  | beaconTimerExpiry => exact answered_of_unlessHeld rfl (by split <;> rfl)
  | coolDownExpiry => exact answered_of_unlessHeld rfl (by split <;> rfl)
  | peerFrameReceived line othersHold => exact peerFrameReceived_answered s line othersHold
  | transmissionStart recessive => exact transmissionStart_answered s recessive
  | arbitrationLost position readBack => exact arbitrationLost_answered s position readBack
  | bitError position readBack ack hold => exact bitError_answered s position readBack ack hold
  | transmitFrameEnd ack hold => exact transmitFrameEnd_answered s ack hold
  | bitErrorSettle recessive => exact bitErrorSettle_answered s recessive
  | breakDetected => exact answered_of_unlessHeld rfl (by split_ifs <;> rfl)
  | breakEnd => exact answered_of_unlessHeld rfl (by split_ifs <;> rfl)
  | beaconApply => exact beaconApply_answered s
  | commandHandover => exact commandHandover_answered s
  | frameDrop => exact frameDrop_answered s
  | identify => exact answered_of_unlessHeld rfl (handOverCode_pending fun _ _ => rfl)
  | ackFaults => exact answered_of_unlessHeld rfl (handOverCode_pending fun _ u => answerAckFaults_pending u _)
  | clearTrip => exact answered_of_unlessHeld rfl (handOverCode_pending fun _ u => answerClearTrip_pending u _)
  | restore => exact answered_of_unlessHeld rfl (handOverCode_pending fun _ u => answerRestore_pending u)
  | restart => exact answered_of_unlessHeld rfl (handOverCode_pending fun _ u => answerRestart_pending u)
  | dump => exact answered_of_unlessHeld rfl (handOverCode_pending fun f u => answerDump_pending u f)
  | replyEnqueue => exact replyEnqueue_answered s
  | streamFrameBuild => exact streamFrameBuild_answered s
  | softRestartBegin => exact answered_of_unlessHeld rfl (by split_ifs <;> rfl)

variable {s}

/-- While the reset input is held every command but FULL_RESET and RESET_INPUT_ASSERTED stands behind the gate (R156). -/
theorem exec_held {c : Instr} (held : ¬ s.acts) (notReset : ∀ straps, c ≠ .fullReset straps)
    (notAsserted : c ≠ .resetInputAsserted) : exec c s = .next s := by
  cases c with
  | fullReset straps => exact absurd rfl (notReset straps)
  | resetInputAsserted => exact absurd rfl notAsserted
  | _ => exact unlessHeld_held held _

theorem tick_acts (acts : s.acts) : s.tick = { s with now := s.now + 1 } := if_neg (Bool.eq_false_iff.mp acts)

theorem tick_held (held : ¬ s.acts) : s.tick = s := if_pos (Bool.of_not_eq_false held)

theorem step_idle (idle : s.pending = []) : step s = .next s.tick := by
  rw [step, idle]

end

/-- Settles O1, by whether a command waits and, where none does, whether the reset input is held. -/
theorem stepRunsFrontCommand : Obligations.StepRunsFrontCommand := by
  refine ⟨fun c rest s => rfl, fun s acts idle => ?_, fun s held idle => ?_⟩
  · rw [step_idle idle, tick_acts acts]
  · rw [step_idle idle, tick_held held]

/-- Settles O2: each command's effect leaves the queue, and the reset input lets two commands alone through. -/
theorem everyCommandIsAnswered : Obligations.EveryCommandIsAnswered :=
  ⟨fun c s => exec_answered s c, fun _ => rfl, fun _ _ => exec_held⟩

end Sys2Proof.Machine
end

section
/-! SUPPORT. DUMP: the number of records announced, and the stream that its reply begins (R176). -/

namespace Sys2Proof.Machine

/-! ## The number of records to follow -/

/-- A start at or past the table's end leaves no record, as the truncated difference of R176 does. -/
theorem dumpCount_eq (present start count : Nat) :
    dumpCount present start count = min (max 1 (min 32 count)) (present - start) := by
  unfold dumpCount clampNat
  split_ifs with before
  · rfl
  · rw [Nat.sub_eq_zero_of_le (Nat.le_of_not_lt before), Nat.min_zero]

/-! ## The three answers -/

/-- The records that a DUMP announces, by its table, start and count arguments (R176, R181). -/
def State.announced (s : State) (f : Frame) : Nat :=
  dumpCount (s.recordsIn (byteAt f.payload 2)) (byteAt f.payload 3) (byteAt f.payload 4)

/-- The stream of the announced records, from the start argument on (R176, R177). -/
def State.dumpStream (s : State) (f : Frame) : Stream :=
  { requester := f.source, tag := f.payload.getD 1 0, table := byteAt f.payload 2, next := byteAt f.payload 3,
    stop := byteAt f.payload 3 + s.announced f, unheard := 0, final := false }

/-- Whether a DUMP has its three arguments and names one of the four tables (R169, R176). -/
def dumpArguments (f : Frame) : Prop :=
  5 ≤ f.payload.length ∧ 1 ≤ byteAt f.payload 2 ∧ byteAt f.payload 2 ≤ 4

section
variable {s : State} {f : Frame}

/-- The test by which `answerDump` finds bad arguments. -/
theorem not_dumpArguments_iff :
    ¬ dumpArguments f ↔ f.arguments.length < 3 ∨ byteAt f.arguments 0 < 1 ∨ 4 < byteAt f.arguments 0 := by
  have length : f.arguments.length = f.payload.length - 2 := List.length_drop
  have table : byteAt f.arguments 0 = byteAt f.payload 2 := byteAt_arguments f 0
  rw [dumpArguments, length, table]
  omega

theorem answerDump_badArg (bad : ¬ dumpArguments f) : answerDump f s = reject .badArg s :=
  if_pos (not_dumpArguments_iff.mp bad)

theorem answerDump_busy (good : dumpArguments f) (runs : s.cu.stream.isSome = true) :
    answerDump f s = reject .busy s :=
  (if_neg (mt not_dumpArguments_iff.mpr (not_not_intro good))).trans (if_pos runs)

theorem answerDump_announces (good : dumpArguments f) (free : s.cu.stream = none) :
    answerDump f s =
      { accept [byteOf (s.announced f)] s with
        stream := if s.announced f = 0 then none else some (s.dumpStream f) } := by
  have free : ¬ s.cu.stream.isSome = true := by rw [free]; exact Bool.false_ne_true
  unfold answerDump
  dsimp only
  rw [if_neg (mt not_dumpArguments_iff.mpr (not_not_intro good)), if_neg free, byteAt_arguments, byteAt_arguments,
    byteAt_arguments]
  rfl

theorem dump_exec {rest : List Frame} (head : s.commandAtHead f rest 6) :
    exec .dump s = .next (offerReply f (answerDump f (headTaken rest s))) := by
  rw [exec, execDump, unlessHeld_acts head.1, handOverCode_at _ head]

end

/-- Settles O58, by the arguments, by whether a stream runs, and by whether a record is to follow. -/
theorem dumpAnnouncesRecords : Obligations.DumpAnnouncesRecords := by
  intro s f rest head table start count present n answered
  have idle := commandAtHead_idle head
  have announced : (headTaken rest s).announced f = n := dumpCount_eq present start (byteAt f.payload 4)
  rw [dump_exec head]
  refine ⟨fun bad => ?_, fun long low high runs => ?_, fun long low high free empty => ?_,
    fun long low high free follow => ?_⟩
  · have bad : ¬ dumpArguments f := by
      rintro ⟨long, low, high⟩
      omega
    rw [answerDump_badArg bad, offerReply_headTaken rfl rfl idle]
    rfl
  · rw [answerDump_busy (s := headTaken rest s) ⟨long, low, high⟩ runs, offerReply_headTaken rfl rfl idle]
    rfl
  · rw [answerDump_announces (s := headTaken rest s) ⟨long, low, high⟩ free, announced, if_pos empty,
      offerReply_headTaken rfl rfl idle, empty]
    rfl
  · rw [answerDump_announces (s := headTaken rest s) ⟨long, low, high⟩ free, State.dumpStream, announced,
      if_neg follow.ne', offerReply_headTaken rfl rfl idle]
    rfl

end Sys2Proof.Machine
end
